-- ==== Sys2Proof/Word.lean ====
section
/-! DEFINITION. The names the whole model counts with: bytes, hall time, texts, beds, cranes, stations, links, timeout
classes, and tables with one entry per bed, crane, station, link or class (spec/00_scope.md, Conventions). -/

namespace Sys2Proof

/-- One byte on a link (R186). -/
abbrev Byte := BitVec 8

/-- Hall time: a millisecond count that wraps from 2^32 - 1 to 0; durations are differences modulo 2^32 (R88). -/
abbrev Time := BitVec 32

/-- A text field: heat numbers, part marks, nest names, grade names (00, Text fields). -/
abbrev Text := List Char

/-- The two cutting beds. -/
inductive Bed where
  | one
  | two
  deriving DecidableEq, Repr

/-- The two overhead cranes. -/
inductive Crane where
  | one
  | two
  deriving DecidableEq, Repr

/-- The two stations of a bed. -/
inductive Station where
  | a
  | b
  deriving DecidableEq, Repr

/-- The five serial links, each with its one master (R186, R189). -/
inductive Link where
  | office
  | bed (b : Bed)
  | crane (c : Crane)
  deriving DecidableEq, Repr

/-- The timeout classes (R179). -/
inductive TimeoutClass where
  | answer
  | wait
  | travel
  deriving DecidableEq, Repr

/-- The other crane of the runway. -/
def Crane.other : Crane → Crane
  | .one => .two
  | .two => .one

/-- The other bed. -/
def Bed.other : Bed → Bed
  | .one => .two
  | .two => .one

/-- Beds, cranes and stations by the numbers and codes the links use (00, Places; R193). -/
def Bed.number : Bed → Nat
  | .one => 1
  | .two => 2

def Crane.number : Crane → Nat
  | .one => 1
  | .two => 2

def Station.code : Station → Nat
  | .a => 0
  | .b => 1

/-- One value per bed. -/
structure PerBed (α : Type) where
  one : α
  two : α
  deriving DecidableEq, Repr

def PerBed.get {α : Type} (p : PerBed α) : Bed → α
  | .one => p.one
  | .two => p.two

def PerBed.set {α : Type} (p : PerBed α) (b : Bed) (v : α) : PerBed α :=
  match b with
  | .one => { p with one := v }
  | .two => { p with two := v }

/-- One value per crane. -/
structure PerCrane (α : Type) where
  one : α
  two : α
  deriving DecidableEq, Repr

def PerCrane.get {α : Type} (p : PerCrane α) : Crane → α
  | .one => p.one
  | .two => p.two

def PerCrane.set {α : Type} (p : PerCrane α) (c : Crane) (v : α) : PerCrane α :=
  match c with
  | .one => { p with one := v }
  | .two => { p with two := v }

/-- One value per station of a bed. -/
structure PerStation (α : Type) where
  a : α
  b : α
  deriving DecidableEq, Repr

def PerStation.get {α : Type} (p : PerStation α) : Station → α
  | .a => p.a
  | .b => p.b

def PerStation.set {α : Type} (p : PerStation α) (st : Station) (v : α) : PerStation α :=
  match st with
  | .a => { p with a := v }
  | .b => { p with b := v }

/-- One value per link. -/
structure PerLink (α : Type) where
  office : α
  bed : PerBed α
  crane : PerCrane α
  deriving DecidableEq, Repr

def PerLink.get {α : Type} (p : PerLink α) : Link → α
  | .office => p.office
  | .bed b => p.bed.get b
  | .crane c => p.crane.get c

def PerLink.set {α : Type} (p : PerLink α) (l : Link) (v : α) : PerLink α :=
  match l with
  | .office => { p with office := v }
  | .bed b => { p with bed := p.bed.set b v }
  | .crane c => { p with crane := p.crane.set c v }

/-- One value per timeout class. -/
structure PerClass (α : Type) where
  answer : α
  wait : α
  travel : α
  deriving DecidableEq, Repr

def PerClass.get {α : Type} (p : PerClass α) : TimeoutClass → α
  | .answer => p.answer
  | .wait => p.wait
  | .travel => p.travel

def PerClass.set {α : Type} (p : PerClass α) (k : TimeoutClass) (v : α) : PerClass α :=
  match k with
  | .answer => { p with answer := v }
  | .wait => { p with wait := v }
  | .travel => { p with travel := v }

/-- A record is named by slot index and generation (00, Handles). As an operand either may be out of range (R2). -/
structure Handle where
  index : Nat
  gen : Nat
  deriving DecidableEq, Repr

end Sys2Proof
end

