-- ==== Sys2Proof/Syntax.lean ====
section
/-! DEFINITION. The commands: one constructor of `Instr` per row of spec/opcode_table.json, with the fields the row's
request or event carries. Fields are as the master sent them: a number may be out of its range, and a code that names no
member of its set is written with a constructor of its own, so that every check of the rules has something to refuse. -/

namespace Sys2Proof

/-- What every request frame carries beside its body (R186): the link it came on, its tag byte, its status byte, and
whether its body matches the form of its kind (the FORMAT check of the owning block). -/
structure Req where
  link : Link
  tag : Nat
  status : Nat
  fits : Bool
  deriving DecidableEq, Repr

/-- A place as a request writes it (R193): type, and stack, bed and station, or crane number. -/
inductive PlaceArg where
  | infeed
  | stack (n : Nat)
  | station (bed st : Nat)
  | hook (crane : Nat)
  | scrap
  | other (code : Nat)
  deriving DecidableEq, Repr

/-- The retire cause RETIRE names (R13); `other`: a code that names neither cause. -/
inductive RetireArg where
  | shipped
  | scrapped
  | other
  deriving DecidableEq, Repr

/-- The fields an EDIT may give (R12). -/
structure EditArg where
  heat : Option Text
  grade : Option Nat
  length : Option Nat
  width : Option Nat
  thickness : Option Nat
  deriving DecidableEq, Repr

/-- The mark mode of a declared part; `other`: a code that is neither (04, Nest Declarations). -/
inductive MarkModeArg where
  | mark
  | noMark
  | other
  deriving DecidableEq, Repr

structure PartArg where
  mark : Text
  area : Nat
  mode : MarkModeArg
  deriving DecidableEq, Repr

/-- A nest declaration as it travels in CLAIM: header, part list, end section (04, Nest Declarations). -/
structure NestArg where
  name : Text
  count : Nat
  parts : List PartArg
  countAgain : Nat
  deriving DecidableEq, Repr

/-- One rectangle of a RETURN, from the plate's origin corner (04, Cut Returns). -/
structure Rect where
  x : Nat
  y : Nat
  l : Nat
  w : Nat
  deriving DecidableEq, Repr

/-- The cut result a RETURN carries: the stated rectangle count, the rectangles, the bed's own counts. -/
structure ReturnArg where
  count : Nat
  rects : List Rect
  pierces : Nat
  cutTime : Nat
  deriving DecidableEq, Repr

/-- The kind of a written zone entry with the fields of that kind (R21). -/
inductive ZoneKindArg where
  | infeed
  | stacking (lanes yLo yHi : Nat) (laneList : List Nat)
  | station (bed st : Nat)
  | scrap
  | park
  | other (code : Nat)
  deriving DecidableEq, Repr

structure ZoneArg where
  valid : Bool
  xLo : Nat
  xHi : Nat
  kind : ZoneKindArg
  deriving DecidableEq, Repr

structure StackArg where
  zone : Nat
  lane : Nat
  x : Nat
  y : Nat
  countLimit : Nat
  heightLimit : Nat
  deriving DecidableEq, Repr

structure GradeArg where
  valid : Bool
  name : Text
  density : Nat
  deriving DecidableEq, Repr

/-- The crane parameter a CONFIG WRITE names (R125). -/
inductive CraneParam where
  | swl
  | tare
  | halfLength
  | clearance
  deriving DecidableEq, Repr

/-- The consumable setting a CONFIG WRITE names (R93). -/
inductive ConsumableItem where
  | minArc
  | warnPierces
  | holdPierces
  | warnSeconds
  | holdSeconds
  deriving DecidableEq, Repr

/-- Beacon modes and polarities (R101). -/
inductive BeaconMode where
  | disabled
  | quiesce
  | consumable
  | both
  deriving DecidableEq, Repr

inductive Polarity where
  | activeHigh
  | activeLow
  deriving DecidableEq, Repr

/-- A written beacon setting; `other`: a value outside the set of the setting. -/
inductive BeaconArg where
  | mode (m : BeaconMode)
  | polarity (p : Polarity)
  | otherMode
  | otherPolarity
  deriving DecidableEq, Repr

inductive RemnantItem where
  | length
  | width
  deriving DecidableEq, Repr

/-- What a QUERY_RECORD command names: a slot index (R15), or the object byte of a QUERY frame that is none of 1 to 6, which R188 refuses RANGE and which has no row of its own (log 23). -/
inductive RecordQuery where
  | record (index : Nat)
  | otherObject (object : Nat)
  deriving DecidableEq, Repr

/-- The commands of spec/opcode_table.json, in the table's order. -/
inductive Instr where
  /-- START, with the levels found on E-STOP and the two ARC SENSE inputs (R103, R121). -/
  | start (eStop arcOne arcTwo : Bool)
  /-- FRAME_DISCARDED, with the bytes newly received on the link (R187). -/
  | frameDiscarded (link : Link) (bytes : List Byte)
  | noticeSent (link : Link)
  | silenceExpiry (link : Link)
  | eStopAsserted
  | eStopReleased
  | arcSenseRisingEdge (bed : Bed)
  | arcSenseFallingEdge (bed : Bed)
  | beaconFlashBoundary
  | classTick (cls : TimeoutClass)
  | orderExpiry (entry : Nat)
  | recallExpiry (entry : Nat)
  | stoppingExpiry (bed : Bed)
  | parkingExpiry (bed : Bed)
  | hello (req : Req) (role mask : Nat)
  | status (req : Req)
  | queryRecord (req : Req) (query : RecordQuery) (gen : Option Nat)
  | queryStack (req : Req) (stack : Nat)
  | queryStation (req : Req) (bed st : Nat)
  /-- The link is named by its role number (1 office, 2 and 3 beds, 4 and 5 cranes, as in R189). -/
  | queryOrder (req : Req) (link tag : Nat)
  | queryCrane (req : Req) (crane : Nat)
  | queryBed (req : Req) (bed : Nat)
  | register (req : Req) (grade : Nat) (heat : Text) (length width thickness : Nat)
  | edit (req : Req) (h : Handle) (fields : EditArg)
  | retire (req : Req) (h : Handle) (cause : RetireArg)
  | quarantineSet (req : Req) (h : Handle)
  | quarantineClear (req : Req) (h : Handle)
  | recall (req : Req) (h : Handle)
  | waiveMark (req : Req) (h : Handle) (part : Nat)
  | hallHold (req : Req)
  | hallRelease (req : Req)
  | clearFault (req : Req) (bed : Nat)
  | clearBreach (req : Req) (crane : Nat)
  | configBegin (req : Req)
  | configWriteZone (req : Req) (index : Nat) (zone : ZoneArg)
  | configWriteStack (req : Req) (index : Nat) (stack : StackArg)
  | configWriteStationCentre (req : Req) (bed st x y : Nat)
  | configWriteGrade (req : Req) (index : Nat) (grade : GradeArg)
  | configWriteInfeedCentre (req : Req) (x y : Nat)
  | configWriteScrapCentre (req : Req) (x y : Nat)
  | configWriteCraneParameter (req : Req) (crane : Nat) (param : CraneParam) (value : Nat)
  | configWriteRunwayLength (req : Req) (value : Nat)
  | configWriteTimeoutPeriod (req : Req) (cls : TimeoutClass) (value : Nat)
  | configWriteConsumableSetting (req : Req) (bed : Nat) (item : ConsumableItem) (value : Nat)
  | configWriteBeaconSetting (req : Req) (bed : Nat) (setting : BeaconArg)
  | configWriteMinimumRemnant (req : Req) (item : RemnantItem) (value : Nat)
  | configWriteSilenceLimit (req : Req) (value : Nat)
  | configEnd (req : Req)
  | restart (req : Req)
  | erase (req : Req)
  | selectStation (req : Req) (st : Nat)
  | claim (req : Req) (h : Handle) (nest : NestArg)
  | nextMark (req : Req)
  | marked (req : Req) (part : Nat)
  | markFailed (req : Req) (part : Nat)
  | cutDone (req : Req) (part : Nat)
  | return_ (req : Req) (h : Handle) (result : ReturnArg)
  | release (req : Req) (h : Handle)
  | contourDone (req : Req) (session : Nat)
  | parked (req : Req) (session : Nat)
  | yield (req : Req) (h : Handle)
  | refuse (req : Req) (h : Handle)
  | consumablesChanged (req : Req)
  | move (req : Req) (source : PlaceArg) (count : Nat) (dest : PlaceArg)
  | skeleton (req : Req) (bed st : Nat)
  | travel (req : Req) (x : Int)
  | at_ (req : Req) (x : Int)
  | picked (req : Req) (order count : Nat)
  | landed (req : Req) (order : Nat) (x y : Int)
  | halt (req : Req) (order : Nat)
  | resume (req : Req) (order : Nat)
  | redirect (req : Req) (order : Nat) (dest : PlaceArg)
  | abandon (req : Req) (order : Nat)
  /-- A valid frame whose kind byte names no request of R188. -/
  | unknownRequestKind (req : Req) (kind : Nat)
  deriving DecidableEq, Repr

end Sys2Proof
end

