-- ==== Sys2Proof/WellFormed.lean ====
section
/-! DEFINITION. Which commands a link, a line or the order table can deliver: every number fits the field that carries it
(R186, R193), positions are signed four-byte values, an expiry names an entry its kind can stand in (R175), and an unknown
kind is indeed none of the table of R188. R193 lays out the handle, the place, the CLAIM body and the positions a crane
reports; the byte widths of every other request field are the model's (log 39: DEDUCED where an answer or notice of R193
carries the same figure, else DESIGN CHOICE). The meanings are total: they do not assume a well-formed command. -/

namespace Sys2Proof

/-- A number that fits n bytes. -/
def fitsBytes (n v : Nat) : Bool := v < 256 ^ n

/-- A text made of bytes other than the padding byte zero (R193). -/
def textFits (t : Text) : Bool := t.all fun ch => 0 < ch.toNat && ch.toNat < 256

/-- A signed four-byte value (R193). -/
def positionFits (x : Int) : Bool := -2147483648 ≤ x && x ≤ 2147483647

def Req.wellFormed (r : Req) : Bool := fitsBytes 1 r.tag && fitsBytes 1 r.status

/-- A handle occupies two bytes of slot index and one byte of generation (R193). -/
def Handle.wellFormed (h : Handle) : Bool := fitsBytes 2 h.index && fitsBytes 1 h.gen

def PlaceArg.wellFormed : PlaceArg → Bool
  | .infeed => true
  | .stack n => fitsBytes 1 n
  | .station b st => fitsBytes 1 b && fitsBytes 1 st
  | .hook c => fitsBytes 1 c
  | .scrap => true
  | .other code => 4 < code && fitsBytes 1 code

def EditArg.wellFormed (e : EditArg) : Bool :=
  (e.heat.all textFits) && (e.grade.all (fitsBytes 1)) && (e.length.all (fitsBytes 2)) &&
    (e.width.all (fitsBytes 2)) && (e.thickness.all (fitsBytes 1))

def NestArg.wellFormed (n : NestArg) : Bool :=
  textFits n.name && fitsBytes 1 n.count && fitsBytes 1 n.countAgain &&
    n.parts.all fun p => textFits p.mark && fitsBytes 4 p.area

def ReturnArg.wellFormed (r : ReturnArg) : Bool :=
  fitsBytes 1 r.count && fitsBytes 2 r.pierces && fitsBytes 4 r.cutTime &&
    r.rects.all fun q => fitsBytes 2 q.x && fitsBytes 2 q.y && fitsBytes 2 q.l && fitsBytes 2 q.w

def ZoneKindArg.wellFormed : ZoneKindArg → Bool
  | .stacking lanes yLo yHi lanesOf =>
      fitsBytes 1 lanes && fitsBytes 4 yLo && fitsBytes 4 yHi && lanesOf.all (fitsBytes 1)
  | .station b st => fitsBytes 1 b && fitsBytes 1 st
  | .other code => fitsBytes 1 code
  | _ => true

def ZoneArg.wellFormed (z : ZoneArg) : Bool := fitsBytes 4 z.xLo && fitsBytes 4 z.xHi && z.kind.wellFormed

def StackArg.wellFormed (k : StackArg) : Bool :=
  fitsBytes 1 k.zone && fitsBytes 1 k.lane && fitsBytes 4 k.x && fitsBytes 4 k.y &&
    fitsBytes 1 k.countLimit && fitsBytes 2 k.heightLimit

def GradeArg.wellFormed (g : GradeArg) : Bool := textFits g.name && fitsBytes 2 g.density

/-- The kind values of R188's table: 1 to 3, 16 to 31, 32 to 44, 48 to 57. -/
def isRequestKind (k : Nat) : Bool :=
  (1 ≤ k && k ≤ 3) || (16 ≤ k && k ≤ 44) || (48 ≤ k && k ≤ 57)

/-- A shared entry of the order table: 2 to 7 (R175). -/
def isSharedEntry (e : Nat) : Bool := 2 ≤ e && e ≤ 7

/-- Every operand fits its field, in the widths of R193 or, where R193 lays the field out nowhere, those of log 39 (DESIGN
CHOICE): zone bounds, centres, cut time and every value of CONFIG WRITE four bytes, stack height limit and grade density two,
lane, count limit and indexes one. -/
def Instr.wellFormed : Instr → Bool
  | .start _ _ _ | .frameDiscarded _ _ | .noticeSent _ | .silenceExpiry _ | .eStopAsserted | .eStopReleased
  | .arcSenseRisingEdge _ | .arcSenseFallingEdge _ | .beaconFlashBoundary | .classTick _
  | .stoppingExpiry _ | .parkingExpiry _ => true
  | .orderExpiry e | .recallExpiry e => isSharedEntry e
  | .hello r role mask => r.wellFormed && fitsBytes 1 role && fitsBytes 1 mask
  | .status r | .hallHold r | .hallRelease r | .configBegin r | .configEnd r | .restart r | .erase r | .nextMark r
  | .consumablesChanged r => r.wellFormed
  | .queryRecord r (.record i) g => r.wellFormed && fitsBytes 2 i && g.all (fitsBytes 1)
  | .queryRecord r (.otherObject n) g => r.wellFormed && fitsBytes 1 n && (n = 0 || 6 < n) && g.isNone
  | .queryStack r n | .queryCrane r n | .queryBed r n | .clearFault r n | .clearBreach r n | .selectStation r n
  | .marked r n | .markFailed r n | .cutDone r n | .contourDone r n | .parked r n | .halt r n | .resume r n
  | .abandon r n => r.wellFormed && fitsBytes 1 n
  | .queryStation r b st | .skeleton r b st => r.wellFormed && fitsBytes 1 b && fitsBytes 1 st
  | .queryOrder r l t => r.wellFormed && fitsBytes 1 l && fitsBytes 1 t
  | .register r g heat l w t =>
      r.wellFormed && fitsBytes 1 g && textFits heat && fitsBytes 2 l && fitsBytes 2 w && fitsBytes 1 t
  | .edit r h f => r.wellFormed && h.wellFormed && f.wellFormed
  | .retire r h _ | .quarantineSet r h | .quarantineClear r h | .recall r h | .release r h | .yield r h
  | .refuse r h => r.wellFormed && h.wellFormed
  | .waiveMark r h p => r.wellFormed && h.wellFormed && fitsBytes 1 p
  | .configWriteZone r i z => r.wellFormed && fitsBytes 1 i && z.wellFormed
  | .configWriteStack r i k => r.wellFormed && fitsBytes 1 i && k.wellFormed
  | .configWriteStationCentre r b st x y =>
      r.wellFormed && fitsBytes 1 b && fitsBytes 1 st && fitsBytes 4 x && fitsBytes 4 y
  | .configWriteGrade r i g => r.wellFormed && fitsBytes 1 i && g.wellFormed
  | .configWriteInfeedCentre r x y | .configWriteScrapCentre r x y => r.wellFormed && fitsBytes 4 x && fitsBytes 4 y
  | .configWriteCraneParameter r n _ v | .configWriteConsumableSetting r n _ v =>
      r.wellFormed && fitsBytes 1 n && fitsBytes 4 v
  | .configWriteRunwayLength r v | .configWriteTimeoutPeriod r _ v | .configWriteMinimumRemnant r _ v
  | .configWriteSilenceLimit r v => r.wellFormed && fitsBytes 4 v
  | .configWriteBeaconSetting r b _ => r.wellFormed && fitsBytes 1 b
  | .claim r h n => r.wellFormed && h.wellFormed && n.wellFormed
  | .return_ r h q => r.wellFormed && h.wellFormed && q.wellFormed
  | .move r s k d => r.wellFormed && s.wellFormed && fitsBytes 1 k && d.wellFormed
  | .travel r x | .at_ r x => r.wellFormed && positionFits x
  | .picked r o n => r.wellFormed && fitsBytes 1 o && fitsBytes 1 n
  | .landed r o x y => r.wellFormed && fitsBytes 1 o && positionFits x && positionFits y
  | .redirect r o d => r.wellFormed && fitsBytes 1 o && d.wellFormed
  | .unknownRequestKind r k => r.wellFormed && fitsBytes 1 k && !isRequestKind k

end Sys2Proof
end

