-- ==== Sys2Proof/Config.lean ====
section
/-! DEFINITION. The sizes the part fixes (one implementation, no free value: the manual states every value it stores). -/

namespace Sys2Proof.Config

/-- Record slots (R1). -/
abbrev slotCount : Nat := 512
/-- The greatest generation; the next one is 0 (R3). -/
abbrev maxGen : Nat := 63
/-- Zone entries (R21), stacks (R26), grade entries (R8). -/
abbrev zoneCount : Nat := 16
abbrev stackCount : Nat := 48
abbrev gradeCount : Nat := 16
/-- Shared entries of the order table, numbered 2 to 7 (R175). -/
abbrev sharedCount : Nat := 6
/-- Notices a link's queue holds (R191), and where its dropped count saturates. -/
abbrev queueDepth : Nat := 16
abbrev maxDropped : Nat := 255
/-- Records a station lists (R30), the infeed holds (R32), a hook carries (R34). -/
abbrev stationRoom : Nat := 3
abbrev infeedRoom : Nat := 2
abbrev hookRoom : Nat := 4
/-- Where the counts of the arc monitor saturate (R91, R92). -/
abbrev maxPierces : Nat := 65535
abbrev maxArcTime : Nat := 4294967295
abbrev maxMisfires : Nat := 255
/-- The length of a skeleton is not recorded: half of the longest plate stands for it (R130). -/
abbrev skeletonExtent : Nat := 10000

end Sys2Proof.Config
end

