-- ==== Sys2Proof/Machine/Data.lean ====
section
/-! DEFINITION. What the part's tables hold and what its frames carry: configuration, stock records, nests, quiesce
sessions, runway spans, crane orders, notices and answers. Types only. -/

namespace Sys2Proof.Machine

open Sys2Proof

/-! ### Configuration -/

structure Point where
  x : Nat
  y : Nat
  deriving DecidableEq, Repr

/-- The kind of a zone entry with the fields present for that kind (02, zone field table). -/
inductive ZoneKind where
  | infeed
  | stacking (lanes yLo yHi : Nat) (laneList : List Nat)
  | station (b : Bed) (st : Station)
  | scrap
  | park
  deriving DecidableEq, Repr

structure Zone where
  valid : Bool
  xLo : Nat
  xHi : Nat
  kind : ZoneKind
  deriving DecidableEq, Repr

/-- The configuration of one stack (R26). -/
structure StackConfig where
  zone : Nat
  lane : Nat
  centre : Point
  countLimit : Nat
  heightLimit : Nat
  deriving DecidableEq, Repr

/-- One grade entry (R8); its reference count is a view of the slots. -/
structure Grade where
  valid : Bool
  name : Text
  density : Nat
  deriving DecidableEq, Repr

/-- The parameters of one crane (R125). -/
structure CraneParams where
  swl : Nat
  tare : Nat
  halfLength : Nat
  clearance : Nat
  deriving DecidableEq, Repr

/-- The consumable settings of one bed (R93). -/
structure ConsumableSettings where
  minArc : Nat
  warnPierces : Nat
  holdPierces : Nat
  warnSeconds : Nat
  holdSeconds : Nat
  deriving DecidableEq, Repr

/-- The beacon settings of one bed (R101). -/
structure BeaconSettings where
  mode : BeaconMode
  polarity : Polarity
  deriving DecidableEq, Repr

/-- Every configuration table and setting; the part holds it twice, committed and staged (R195, R196). -/
structure HallConfig where
  zones : Vector Zone Config.zoneCount
  stackTable : Vector StackConfig Config.stackCount
  stationCentres : PerBed (PerStation Point)
  grades : Vector Grade Config.gradeCount
  infeedCentre : Point
  scrapCentre : Point
  cranes : PerCrane CraneParams
  runway : Nat
  periods : PerClass Nat
  consumables : PerBed ConsumableSettings
  beacons : PerBed BeaconSettings
  minLength : Nat
  minWidth : Nat
  silenceLimit : Nat
  deriving DecidableEq, Repr

/-! ### Stock records and places -/

inductive RecordKind where
  | plate
  | remnant
  deriving DecidableEq, Repr

/-- Who has a record (R42). -/
inductive Custody where
  | rest
  | carried (c : Crane)
  | orphaned (c : Crane)
  | claimed (b : Bed)
  | worked (b : Bed)
  deriving DecidableEq, Repr

/-- A crane order as bookings, wait slots and holder sets name it: crane and tag (R20, R176). -/
structure OrderRef where
  crane : Crane
  tag : Nat
  deriving DecidableEq, Repr

/-- The contents of an OCCUPIED slot (01, record field table); the place field is a view of the place lists. -/
structure Record where
  kind : RecordKind
  grade : Nat
  heat : Text
  length : Nat
  width : Nat
  thickness : Nat
  mass : Nat
  parent : Option Handle
  custody : Custody
  booking : Option OrderRef
  waitSlot : Option OrderRef
  quarantine : Bool
  incomplete : Bool
  deriving DecidableEq, Repr

/-- A slot: its generation, and its record while it is OCCUPIED (R1). -/
structure Slot where
  gen : Nat
  content : Option Record
  deriving DecidableEq, Repr

/-- A place of the hall (00, Places). -/
inductive Place where
  | infeed
  | stack (n : Nat)
  | station (b : Bed) (st : Station)
  | hook (c : Crane)
  | scrap
  deriving DecidableEq, Repr

/-- The place field of a record: the list it stands in, with the level or hook position (R27, R34). -/
inductive RecordPlace where
  | infeed
  | stack (n level : Nat)
  | station (b : Bed) (st : Station)
  | hook (c : Crane) (position : Nat)
  deriving DecidableEq, Repr

/-- The retained state of one station (R30, R31). -/
structure StationState where
  records : List Handle
  skeleton : Bool
  skeletonMass : Nat
  deriving DecidableEq, Repr

/-- The causes a freed slot carries (R4). -/
inductive RetireCause where
  | shipped
  | scrapped
  | cut
  deriving DecidableEq, Repr

/-! ### Nests -/

inductive MarkState where
  | pending
  | issued
  | marked
  | failed
  | waived
  | noMark
  deriving DecidableEq, Repr

/-- One part entry of a nest record (04, The Nest Record). -/
structure Part where
  mark : Text
  area : Nat
  marking : Bool
  state : MarkState
  attempts : Nat
  cut : Bool
  deriving DecidableEq, Repr

/-- The nest record of a claiming bed; it is the claim: `plate` is the claimed record (R46, R67). -/
structure Nest where
  plate : Handle
  name : Text
  area : Nat
  parts : List Part
  pierces : Nat
  arcTime : Nat
  deriving DecidableEq, Repr

/-! ### Arc monitor -/

inductive ConsumableState where
  | ok
  | warn
  | hold
  deriving DecidableEq, Repr

/-- The consumable record of a bed (R92). -/
structure Consumable where
  pierces : Nat
  arcTime : Nat
  misfires : Nat
  state : ConsumableState
  deriving DecidableEq, Repr

/-- The causes a CONSUMABLE notice names (R95, R96). -/
inductive ConsumableCause where
  | warnPierces
  | warnArcTime
  | holdPierces
  | holdArcTime
  | holdMisfires
  | changed
  deriving DecidableEq, Repr

/-- The arc capture of a bed (R89): ON with its rise time, or OFF; and the fault latch with its fault time (R97). -/
structure ArcCapture where
  rise : Option Time
  fault : Option Time
  deriving DecidableEq, Repr

/-! ### Quiesce -/

inductive QuiesceState where
  | running
  | stopping
  | parking
  | quiesced
  deriving DecidableEq, Repr

/-- The holder set of a bed: at most one order of each crane, named by its tag, and HALL (R106). -/
structure HolderSet where
  order : PerCrane (Option Nat)
  hall : Bool
  deriving DecidableEq, Repr

inductive Holder where
  | order (ref : OrderRef)
  | hall
  deriving DecidableEq, Repr

/-- The age of a timed entry (R180, R181). -/
structure Timer where
  age : Nat
  deriving DecidableEq, Repr

/-- What the quiesce controller holds for one bed (06, item table); `timer` is the age of the bed's reserved entry. -/
structure Quiesce where
  state : QuiesceState
  holders : HolderSet
  session : Nat
  allowance : Bool
  parked : Bool
  degraded : Bool
  timer : Option Timer
  deriving DecidableEq, Repr

/-! ### Runway -/

/-- An interval of the runway; both ends belong to it (00, Ranges). -/
structure Interval where
  lo : Nat
  hi : Nat
  deriving DecidableEq, Repr

/-- What the load calculator answers for an order: span, corridor, and the extent they were formed with (R132). -/
structure Sweep where
  span : Interval
  corridor : Interval
  extent : Nat
  deriving DecidableEq, Repr

inductive SpanKind where
  | rest
  | move
  deriving DecidableEq, Repr

/-- A known span of a crane (R138); an UNKNOWN span is the absence of one. -/
structure CraneSpan where
  kind : SpanKind
  range : Interval
  deriving DecidableEq, Repr

/-- A pending span request (R143). -/
structure SpanRequest where
  tag : Nat
  sweep : Sweep
  deriving DecidableEq, Repr

inductive BreachKind where
  | first
  | idle
  | corridor
  | ending
  deriving DecidableEq, Repr

/-- The breach record; the latch is set while it is present (R142). -/
structure Breach where
  kind : BreachKind
  x : Nat
  time : Time
  deriving DecidableEq, Repr

/-- What the runway controller holds for one crane (08, item table). -/
structure Runway where
  lastX : Option Nat
  span : Option CraneSpan
  request : Option SpanRequest
  breach : Option Breach
  deriving DecidableEq, Repr

/-! ### Order table -/

inductive OrderKind where
  | move
  | skeleton
  | travel
  deriving DecidableEq, Repr

/-- The destination of an order: a place, or the x of a TRAVEL as it was sent. -/
inductive Destination where
  | place (p : Place)
  | x (x : Int)
  deriving DecidableEq, Repr

inductive Stage where
  | queued
  | reserving
  | pickup
  | carry
  | halted
  deriving DecidableEq, Repr

/-- A stage that a HALTED order remembers, or a REDIRECT's wait returns to (09, order body). -/
inductive Phase where
  | reserving
  | pickup
  | carry
  deriving DecidableEq, Repr

/-- The halt causes (R163). -/
inductive Cause where
  | operator
  | estop
  | hallHold
  | link
  | breach
  | arcFault
  | timeout
  | overload
  | misplaced
  deriving DecidableEq, Repr

/-- A set of halt causes. -/
structure CauseSet where
  operator : Bool
  estop : Bool
  hallHold : Bool
  link : Bool
  breach : Bool
  arcFault : Bool
  timeout : Bool
  overload : Bool
  misplaced : Bool
  deriving DecidableEq, Repr

/-- The skeleton of a SKELETON order: booked at its station, then on the hook with its mass (R31, R155). -/
inductive SkeletonLoad where
  | none
  | booked
  | onHook (mass : Nat)
  deriving DecidableEq, Repr

/-- The inbound booking of an order (R37). -/
structure Inbound where
  place : Place
  count : Nat
  thickness : Nat
  deriving DecidableEq, Repr

/-- A REDIRECT's wait (R166, R167): whether its return stage is HALTED, the order's figures before the REDIRECT (kept from
the runway grant on), whether the runway controller has granted the new span, and the beds joined for it. The return stage itself (PICKUP or CARRY, or
the one a HALTED return remembers) and its causes stand in the order's `remembered` and `causes`. -/
structure Redirect where
  haltedReturn : Bool
  before : Option Sweep
  cleared : Bool
  joined : PerBed Bool
  deriving DecidableEq, Repr

/-- The body of a crane order (09, order body). `spanHeld`: the runway controller has granted its span and it has not
given it up (R44). `left` and `extras`: the booked records a short PICKED left, and the records lifted beyond k. -/
structure Order where
  crane : Crane
  tag : Nat
  kind : OrderKind
  source : Option Place
  count : Nat
  dest : Destination
  stage : Stage
  timer : Option Timer
  records : List Handle
  left : List Handle
  extras : List Handle
  skeleton : SkeletonLoad
  sweep : Option Sweep
  spanHeld : Bool
  causes : CauseSet
  remembered : Phase
  redirect : Option Redirect
  short : Bool
  inbound : Option Inbound
  deriving DecidableEq, Repr

/-- The body of a recall (R61, R176). -/
structure Recall where
  tag : Nat
  handle : Handle
  bed : Bed
  timer : Timer
  deriving DecidableEq, Repr

/-- A live shared entry of the order table (R175); HOLD carries the tag of the hall hold. -/
inductive Entry where
  | order (o : Order)
  | recall (r : Recall)
  | hold (tag : Nat)
  deriving DecidableEq, Repr

/-- How an order ended (R170). -/
inductive EndCondition where
  | done
  | short
  | misplaced
  | abandoned
  | blocked
  | quiesceTimeout
  | refusedGone
  | refusedBusy
  | refusedNotTop
  | refusedBadPlace
  | refusedNoRoom
  | refusedOverload
  deriving DecidableEq, Repr

/-- How a recall ended (R61). -/
inductive RecallOutcome where
  | done
  | kept
  | noAnswer
  deriving DecidableEq, Repr

/-! ### Notices -/

/-- One rectangle of a cut return as the part took it (R79, R80, R84). -/
inductive RectResult where
  | remnant (h : Handle)
  | undersize
  | dropped
  deriving DecidableEq, Repr

/-- The report of an accepted cut return (R84). -/
structure NestDone where
  plate : Handle
  heat : Text
  gradeName : Text
  nestName : Text
  bed : Bed
  station : Station
  parts : List (MarkState × Bool)
  rects : List RectResult
  areaPlate : Nat
  areaCut : Nat
  areaRemnants : Nat
  areaScrap : Nat
  yield : Nat
  skeletonMass : Nat
  pierces : Nat
  arcTime : Nat
  bedPierces : Nat
  bedCutTime : Nat
  deriving DecidableEq, Repr

/-- The stage an ORDER GRANTED notice names (R193). -/
inductive StageEntered where
  | pickup
  | carry
  | halted
  deriving DecidableEq, Repr

/-- What an ORDER GRANTED notice carries (R156, R193). -/
structure OrderGranted where
  tag : Nat
  stage : StageEntered
  span : Interval
  corridor : Interval
  dest : Option Place
  destX : Nat
  held : PerBed Bool
  load : Nat
  deriving DecidableEq, Repr

/-- What an ORDER END notice carries (R170). -/
structure OrderEnd where
  crane : Crane
  tag : Nat
  condition : EndCondition
  landedAt : Option Place
  short : Bool
  left : List Handle
  extras : List Handle
  deriving DecidableEq, Repr

/-- The notices of R192, each with what its rule says it carries. -/
inductive Notice where
  | start (orphansOne orphansTwo incomplete : List Handle)
  | retired (h : Handle) (heat : Text) (cause : RetireCause)
  | incomplete (h : Handle) (heat : Text) (bed : Bed) (marked cut pierces arcTime : Nat)
  | recallEnd (tag : Nat) (h : Handle) (outcome : RecallOutcome) (custody : Option Custody)
  | markFailed (h : Handle) (heat : Text) (bed : Bed) (nestName : Text) (part : Nat) (mark : Text)
  | nestDone (body : NestDone)
  | consumable (bed : Bed) (state : ConsumableState) (causes : List ConsumableCause) (pierces arcTime misfires : Nat)
  | orderEnd (body : OrderEnd)
  | quiesceTimeout (bed : Bed) (session : Nat) (removed : List OrderRef)
  | fault (bed : Bed) (station : Station) (time : Time) (claimed : Option Handle) (quarantined : List Handle)
      (orders : List OrderRef)
  | faultCleared (bed : Bed) (orders : List OrderRef)
  | forced (bed : Bed) (session : Nat) (claimed : Option Handle) (time : Time)
  | degraded (bed : Bed) (session : Nat) (granted : List Holder)
  | estop (orders : List OrderRef)
  | estopClear
  | breach (crane : Crane) (kind : BreachKind) (x : Nat) (span : Option CraneSpan) (order : Option (Nat × Interval))
      (otherSpan : Option CraneSpan)
  | breachCleared (crane : Crane)
  | holdComplete (tag : Nat)
  | recall (h : Handle) (tag : Nat) (nestName : Text)
  | stopContour (session : Nat) (claimed : Option Handle)
  | park (session : Nat)
  | resume (session : Nat)
  | markWaived (part : Nat) (mark : Text)
  | orderGranted (body : OrderGranted)
  | orderHalted (tag : Nat) (causes : CauseSet) (remembered : Phase)
  deriving DecidableEq, Repr

/-- The five classes of the office's mask (R192). -/
inductive NoticeClass where
  | stock
  | nest
  | consumable
  | crane
  | fault
  deriving DecidableEq, Repr

structure ClassMask where
  stock : Bool
  nest : Bool
  consumable : Bool
  crane : Bool
  fault : Bool
  deriving DecidableEq, Repr

/-! ### Answers -/

/-- The status codes, in value order 0 to 42 (R188). -/
inductive Status where
  | ok | accepted | queued | heldByYou | done | kept | none_
  | role | link | state | format | range | stale | full | limit
  | tagInUse | notHere | shared | notTop | held | booked | busy | quarantined | skeleton
  | noRoom | badPlace | overload | overrun | duplicate | unmarked | quiesced | estop | arcOn
  | inTransit | inUse | craneOver | cause | loaded | hookLoaded | blocked | noAnswer | late | gone
  deriving DecidableEq, Repr

/-- The request kinds of R188; the six query rows are one kind, and so are the thirteen configuration writes. -/
inductive RequestKind where
  | hello | status | query
  | register | edit | retire | quarantineSet | quarantineClear | recall | waiveMark | hallHold | hallRelease
  | clearFault | clearBreach | configBegin | configWrite | configEnd | restart | erase
  | selectStation | claim | nextMark | marked | markFailed | cutDone | return_ | release | contourDone | parked
  | yield | refuse | consumablesChanged
  | move | skeleton | travel | at_ | picked | landed | halt | resume | redirect | abandon
  | unknown (code : Nat)
  deriving DecidableEq, Repr

/-- The mark record of an answer to NEXT MARK (R71). -/
structure MarkRecord where
  part : Nat
  mark : Text
  attempt : Nat
  heat : Text
  gradeName : Text
  plate : Handle
  nestName : Text
  deriving DecidableEq, Repr

/-- The stock record body (R193). -/
structure RecordView where
  handle : Handle
  record : Record
  place : Option RecordPlace
  deriving DecidableEq, Repr

/-- The answer to QUERY of a stack (R41). -/
structure StackView where
  config : StackConfig
  inUse : Bool
  records : List (Handle × Nat)
  thickness : Nat
  inboundCount : Nat
  inboundThickness : Nat
  deriving DecidableEq, Repr

/-- The answer to QUERY of a station (R41). -/
structure StationView where
  centre : Point
  records : List Handle
  inboundCount : Nat
  skeleton : Bool
  skeletonMass : Nat
  closedByClaim : Bool
  deriving DecidableEq, Repr

/-- How an order holds one of its records: booked by it, or waited for in the record's wait slot (09 order body). -/
inductive RecordHold where
  | booked
  | awaited
  deriving DecidableEq, Repr

/-- The body of an order table entry as QUERY answers it (R176). Of an order: each record booked or waited for, no mark once it
hangs on the hook (log 30); each held bed with its grant received or awaited. -/
inductive EntryBody where
  | order (o : Order) (records : List (Handle × Option RecordHold)) (held : PerBed (Option Bool))
  | recall (h : Handle) (bed : Bed)
  | hold (granted : PerBed Bool)
  | quiesce (bed : Bed)
  deriving DecidableEq, Repr

/-- The stage of an entry of any kind (R180). -/
inductive EntryStage where
  | order (s : Stage)
  | outstanding
  | held
  | quiesce (s : QuiesceState)
  deriving DecidableEq, Repr

/-- The kind of an entry (R176). -/
inductive EntryKind where
  | move
  | skeleton
  | travel
  | recall
  | hold
  | quiesce
  deriving DecidableEq, Repr

/-- The answer to QUERY of an order (R185): entry number, link, tag, kind, stage, class, age, next tick, body. -/
structure OrderView where
  entry : Nat
  link : Link
  tag : Nat
  kind : EntryKind
  stage : EntryStage
  cls : Option TimeoutClass
  age : Option Nat
  nextTick : Option Time
  body : EntryBody
  deriving DecidableEq, Repr

/-- The conditions of R148 that QUERY of a crane names when they are not met (R152). -/
inductive MotionCondition where
  | run | linkUp | noEStop | noBreach | noHallHold | spanKnown | noArcFault
  deriving DecidableEq, Repr

/-- The conditions of R115 that QUERY of a bed names when they are not met (R123). -/
inductive PermitCondition where
  | run | noEStop | linkUp | notHold | noFault | soleClaim | notQuiesced
  deriving DecidableEq, Repr

/-- The answer to QUERY of a crane (R152). -/
structure CraneView where
  lastX : Option Nat
  span : Option CraneSpan
  request : Option (Nat × Interval)
  breach : Option Breach
  motion : Bool
  unmet : List MotionCondition
  hook : List (Handle × Nat)
  load : Nat
  params : CraneParams
  orders : List OrderView
  deriving DecidableEq, Repr

/-- The answer to QUERY of a bed (R46, R70, R104, R123). -/
structure BedView where
  station : Station
  claimed : Option (Handle × Option Custody)
  recallTag : Option Nat
  nest : Option Nest
  time : Time
  rise : Option Time
  consumable : Consumable
  settings : ConsumableSettings
  fault : Option Time
  beacon : BeaconSettings
  beaconHigh : Bool
  quiesce : QuiesceState
  session : Nat
  holders : HolderSet
  allowance : Bool
  parked : Bool
  degraded : Bool
  entryAge : Option (Option Nat)
  permit : Bool
  unmet : List PermitCondition
  deriving DecidableEq, Repr

/-- The body of STATUS (R199). -/
structure StatusView where
  run : Bool
  time : Time
  links : PerLink Bool
  quiesce : PerBed QuiesceState
  permit : PerBed Bool
  hallHold : Bool
  eStop : Bool
  span : PerCrane (Option SpanKind)
  breach : PerCrane Bool
  motion : PerCrane Bool
  freeEntries : Nat
  periods : PerClass Nat
  freeSlots : Nat
  deriving DecidableEq, Repr

/-- The object a failing CONFIG END check concerns (R197). -/
inductive ConfigObject where
  | zone (n : Nat)
  | stack (n : Nat)
  | grade (n : Nat)
  | crane (c : Crane)
  deriving DecidableEq, Repr

/-- What a landing came to (R161, R162). -/
inductive LandingResult where
  | ended (condition : EndCondition)
  | halted (causes : CauseSet)
  deriving DecidableEq, Repr

/-- The bodies answers carry. -/
inductive AnswerBody where
  | empty
  | stale (h : Handle)
  | hello (run : Bool) (time : Time) (queued : Nat)
  | status (v : StatusView)
  | slot (occupied : Bool) (gen : Nat) (record : Option RecordView)
  | stack (v : StackView)
  | station (v : StationView)
  | order (v : OrderView)
  | crane (v : CraneView)
  | bed (v : BedView)
  | registered (h : Handle) (mass : Nat)
  | mass (mass : Nat)
  | retired (cause : RetireCause)
  | orders (refs : List OrderRef)
  | configCheck (check : Nat) (part : Option Nat) (object : Option ConfigObject)
  | mark (m : MarkRecord)
  | markState (m : MarkState)
  | cutReturn (rects : List RectResult) (skeletonMass : Nat)
  | sweep (v : Option (Interval × Interval))
  | position (x : Nat) (span : Option CraneSpan) (breached : Bool)
  | picked (hook extras : List Handle) (load : Nat) (causes : CauseSet)
  | landed (place : Option Place) (handles : List Handle) (result : LandingResult)
  | causes (causes : CauseSet)
  | stage (s : Stage)
  deriving DecidableEq, Repr

/-- An answer frame (R186, R188). -/
structure Answer where
  link : Link
  kind : RequestKind
  tag : Nat
  status : Status
  body : AnswerBody
  deriving DecidableEq, Repr

/-- A notice frame as it left its queue (R191). -/
structure SentNotice where
  link : Link
  gap : Nat
  notice : Notice
  deriving DecidableEq, Repr

/-- What the link interface holds for one link (11, link table), with the receiver's bytes (R187). `sending`: the oldest notice
of the queue is under transmission, with this gap count in its status byte (R191). -/
structure LinkState where
  up : Bool
  lastFrame : Option Time
  queue : List Notice
  dropped : Nat
  sending : Option Nat
  received : List Byte
  deriving DecidableEq, Repr

/-- The part states between events; START is one event (R194). -/
inductive PartState where
  | config
  | run
  deriving DecidableEq, Repr

end Sys2Proof.Machine
end

