-- ==== Sys2Proof/Machine/Defaults.lean ====
section
/-! DEFINITION. The values the spec gives after ERASE and at first power-on, and the values START sets. -/

namespace Sys2Proof.Machine

open Sys2Proof

/-- R21. -/
def defaultZone : Zone := { valid := false, xLo := 0, xHi := 1, kind := .park }

/-- R26. -/
def defaultStack : StackConfig :=
  { zone := 0, lane := 0, centre := ⟨0, 0⟩, countLimit := 16, heightLimit := 1000 }

/-- R8. -/
def defaultGrade : Grade := { valid := false, name := [], density := 785 }

/-- R125. -/
def defaultCrane : CraneParams := { swl := 0, tare := 0, halfLength := 500, clearance := 0 }

/-- R93. -/
def defaultConsumables : ConsumableSettings :=
  { minArc := 40, warnPierces := 0, holdPierces := 0, warnSeconds := 0, holdSeconds := 0 }

/-- R101. -/
def defaultBeacon : BeaconSettings := { mode := .disabled, polarity := .activeHigh }

/-- Every table and setting as ERASE and the first power-on leave it. -/
def defaultConfig : HallConfig where
  zones := Vector.replicate _ defaultZone
  stackTable := Vector.replicate _ defaultStack
  stationCentres := ⟨⟨⟨0, 0⟩, ⟨0, 0⟩⟩, ⟨⟨0, 0⟩, ⟨0, 0⟩⟩⟩
  grades := Vector.replicate _ defaultGrade
  infeedCentre := ⟨0, 0⟩
  scrapCentre := ⟨0, 0⟩
  cranes := ⟨defaultCrane, defaultCrane⟩
  runway := 400000
  periods := ⟨2000, 10000, 30000⟩
  consumables := ⟨defaultConsumables, defaultConsumables⟩
  beacons := ⟨defaultBeacon, defaultBeacon⟩
  minLength := 500
  minWidth := 300
  silenceLimit := 1000

/-- R92, R103. -/
def freshConsumable : Consumable := { pierces := 0, arcTime := 0, misfires := 0, state := .ok }

/-- R30. -/
def emptyStation : StationState := { records := [], skeleton := false, skeletonMass := 0 }

def noHolders : HolderSet := { order := ⟨none, none⟩, hall := false }

/-- The quiesce items after START (R105). -/
def startQuiesce : Quiesce :=
  { state := .running, holders := noHolders, session := 0, allowance := false, parked := false, degraded := false,
    timer := none }

/-- The runway items after START (R138, R151). -/
def startRunway : Runway := { lastX := none, span := none, request := none, breach := none }

/-- The link items after START (R189, R194). -/
def startLink : LinkState := { up := false, lastFrame := none, queue := [], dropped := 0, sending := none, received := [] }

/-- All five classes (R194). -/
def allClasses : ClassMask := { stock := true, nest := true, consumable := true, crane := true, fault := true }

def noCauses : CauseSet :=
  { operator := false, estop := false, hallHold := false, link := false, breach := false, arcFault := false,
    timeout := false, overload := false, misplaced := false }

/-- The age an entry has when it enters a timed stage (R180). -/
def freshTimer : Timer := { age := 0 }

end Sys2Proof.Machine
end

