-- ==== Sys2Proof/Machine/State.lean ====
section
/-! DEFINITION. The state of the part, the outcomes a step can have beside a next state, and the state after reset. -/

namespace Sys2Proof.Machine

open Sys2Proof

/-- Everything the spec gives the part (INVENTORY.md, State), and the queue of commands that wait. -/
structure State where
  /-- Part state, configuration valid mark, and whether an accepted RESTART is still to be followed by START (R194, R198). -/
  part : PartState
  validMark : Bool
  restartOwed : Bool
  /-- Hall time, the next tick of each timeout class, and the E-STOP input (R88, R179, R120). -/
  hallTime : Time
  nextTick : PerClass Time
  /-- The order table entries whose own tick, an expiry, was taken at the present tick of their class ahead of CLASS_TICK, which
  examines the others (R181, log 3). -/
  ticked : PerClass (List Nat)
  eStop : Bool
  /-- Link interface (R187 to R192). -/
  links : PerLink LinkState
  mask : ClassMask
  /-- What the last command put on the TX lines: an answer, and a notice that left its queue (R188, R191). -/
  txAnswer : Option Answer
  txNotice : Option SentNotice
  /-- Configuration, committed and staged (R195). -/
  committed : HallConfig
  staged : HallConfig
  /-- Stock table (R1). -/
  slots : Vector Slot Config.slotCount
  /-- Place map (R26, R30, R32, R34). -/
  piles : Vector (List Handle) Config.stackCount
  stations : PerBed (PerStation StationState)
  infeed : List Handle
  hooks : PerCrane (List Handle)
  /-- Custody controller and nest unit: active stations and claims with their nest records (R43, R46, R67). -/
  active : PerBed Station
  claims : PerBed (Option Nest)
  /-- Arc monitor (R89, R92, R97, R101). -/
  arcs : PerBed ArcCapture
  consumables : PerBed Consumable
  beacon : PerBed Bool
  /-- Quiesce controller (R105, R115). -/
  quiesce : PerBed Quiesce
  permit : PerBed Bool
  /-- Runway controller (R138, R148). -/
  runway : PerCrane Runway
  motion : PerCrane Bool
  /-- Shared entries of the order table, entry 2 first (R175). -/
  shared : Vector (Option Entry) Config.sharedCount
  /-- The commands that wait, first in first out. -/
  pending : List Instr
  deriving DecidableEq, Repr

/-- Reasons a step stops with a fault. No command of this part raises one: the manual describes no event that stops the
part. The one constructor stands so that the type has a name to print; nothing answers with it (safe). -/
inductive Fault where
  /-- Raised by nothing. -/
  | stopped
  deriving DecidableEq, Repr

/-- Reasons a step has no meaning. -/
inductive Refusal where
  /-- Raised by an arm of exec whose command has no meaning yet (safe: the model stops). No arm is left so. -/
  | notModelled (mnemonic : String)
  deriving DecidableEq, Repr

/-- The part right after reset: the START of a first power-on with E-STOP released and both arcs off (R19, R194). The
retained store is as ERASE leaves it with every generation 0, the part is in CONFIG, every link is DOWN, and the office
queue holds the START notice with empty lists (R17). Levels of the inputs: DESIGN CHOICE, log 5. -/
def State.reset : State where
  part := .config
  validMark := false
  restartOwed := false
  hallTime := 0
  nextTick := ⟨2000, 10000, 30000⟩
  ticked := ⟨[], [], []⟩
  eStop := false
  links := ⟨{ startLink with queue := [.start [] [] []] }, ⟨startLink, startLink⟩, ⟨startLink, startLink⟩⟩
  mask := allClasses
  txAnswer := none
  txNotice := none
  committed := defaultConfig
  staged := defaultConfig
  slots := Vector.replicate _ ⟨0, none⟩
  piles := Vector.replicate _ []
  stations := ⟨⟨emptyStation, emptyStation⟩, ⟨emptyStation, emptyStation⟩⟩
  infeed := []
  hooks := ⟨[], []⟩
  active := ⟨.a, .a⟩
  claims := ⟨none, none⟩
  arcs := ⟨⟨none, none⟩, ⟨none, none⟩⟩
  consumables := ⟨freshConsumable, freshConsumable⟩
  beacon := ⟨false, false⟩
  quiesce := ⟨startQuiesce, startQuiesce⟩
  permit := ⟨false, false⟩
  runway := ⟨startRunway, startRunway⟩
  motion := ⟨false, false⟩
  shared := Vector.replicate _ none
  pending := []

end Sys2Proof.Machine
end

