-- ==== Sys2Proof/Machine/Ops.lean ====
section
/-! DEFINITION. The named operations over the part's tables: slots and records, place lists, notice queues, the tables per
bed and per crane, and the shared entries of the order table. Every other file reads and writes State through these. -/

namespace Sys2Proof.Machine

open Sys2Proof

/-! ### Slots and records (R1 to R4) -/

def State.slot (s : State) (i : Nat) : Slot := s.slots[i]?.getD ⟨0, none⟩

def State.setSlot (s : State) (i : Nat) (v : Slot) : State := { s with slots := s.slots.setIfInBounds i v }

/-- The record a handle names, if it names a live one (R2). -/
def State.recordOf (s : State) (h : Handle) : Option Record :=
  if (s.slot h.index).gen = h.gen then (s.slot h.index).content else none

/-- Changes the record a handle names; a handle that names none changes nothing. -/
def State.modRecord (s : State) (h : Handle) (f : Record → Record) : State :=
  match s.recordOf h with
  | some r => s.setSlot h.index ⟨h.gen, some (f r)⟩
  | none => s

/-- The free-slot set of R1, in ascending index. -/
def State.freeSlots (s : State) : List Nat :=
  (List.range Config.slotCount).filter fun i => (s.slot i).content.isNone

/-- The slot an allocation takes (R3). -/
def State.lowestFree (s : State) : Option Nat :=
  (List.range Config.slotCount).find? fun i => (s.slot i).content.isNone

/-- The generation after g (R3). -/
def nextGen (g : Nat) : Nat := if g = Config.maxGen then 0 else g + 1

/-- The handle an allocation of slot i gives its record (R3). -/
def State.nextHandle (s : State) (i : Nat) : Handle := ⟨i, nextGen (s.slot i).gen⟩

/-- R3: the slot becomes OCCUPIED by `r` with its generation increased by one. -/
def State.occupy (s : State) (i : Nat) (r : Record) : State := s.setSlot i ⟨nextGen (s.slot i).gen, some r⟩

/-- Handles of the OCCUPIED slots whose record satisfies p, in ascending slot index. -/
def State.handlesWhere (s : State) (p : Record → Bool) : List Handle :=
  (List.range Config.slotCount).filterMap fun i =>
    match (s.slot i).content with
    | some r => if p r then some ⟨i, (s.slot i).gen⟩ else none
    | none => none

/-- The reference count of a grade entry: the OCCUPIED slots whose record names it (R8). -/
def State.gradeCount (s : State) (g : Nat) : Nat :=
  ((List.range Config.slotCount).filter fun i => (s.slot i).content.any fun r => r.grade = g).length

def State.thicknessOf (s : State) (h : Handle) : Nat := ((s.recordOf h).map (·.thickness)).getD 0
def State.massOf (s : State) (h : Handle) : Nat := ((s.recordOf h).map (·.mass)).getD 0
def State.lengthOf (s : State) (h : Handle) : Nat := ((s.recordOf h).map (·.length)).getD 0
def State.custodyOf (s : State) (h : Handle) : Option Custody := (s.recordOf h).map (·.custody)

/-- Summed thickness of a list of records (R26). -/
def State.thickness (s : State) (hs : List Handle) : Nat := (hs.map s.thicknessOf).sum

/-- Summed mass of a list of records (R128). -/
def State.mass (s : State) (hs : List Handle) : Nat := (hs.map s.massOf).sum

def State.setCustody (s : State) (h : Handle) (c : Custody) : State := s.modRecord h fun r => { r with custody := c }

/-! ### Place lists (R26 to R34) -/

def State.pile (s : State) (n : Nat) : List Handle := s.piles[n]?.getD []

def State.setPile (s : State) (n : Nat) (hs : List Handle) : State := { s with piles := s.piles.setIfInBounds n hs }

def State.station (s : State) (b : Bed) (st : Station) : StationState := (s.stations.get b).get st

def State.setStation (s : State) (b : Bed) (st : Station) (v : StationState) : State :=
  { s with stations := s.stations.set b ((s.stations.get b).set st v) }

def State.hook (s : State) (c : Crane) : List Handle := s.hooks.get c

def State.setHook (s : State) (c : Crane) (hs : List Handle) : State := { s with hooks := s.hooks.set c hs }

/-- The list of a place: a stack bottom to top, a station in arrival order, the infeed oldest first, a hook in hook order.
SCRAP holds no list (R33). -/
def State.listAt (s : State) : Place → List Handle
  | .infeed => s.infeed
  | .stack n => s.pile n
  | .station b st => (s.station b st).records
  | .hook c => s.hook c
  | .scrap => []

def State.setListAt (s : State) (p : Place) (hs : List Handle) : State :=
  match p with
  | .infeed => { s with infeed := hs }
  | .stack n => s.setPile n hs
  | .station b st => s.setStation b st { s.station b st with records := hs }
  | .hook c => s.setHook c hs
  | .scrap => s

/-- The n records a lift from a place takes, in hook order: a stack from the top, a station from the tail, the infeed from
the head (R28, R30, R32); a hook list as it stands. -/
def State.liftable (s : State) (p : Place) (n : Nat) : List Handle :=
  match p with
  | .infeed => s.infeed.take n
  | .hook c => (s.hook c).take n
  | p => (s.listAt p).reverse.take n

/-- What a lift of n records leaves in the list of its place. -/
def State.afterLift (s : State) (p : Place) (n : Nat) : List Handle :=
  match p with
  | .infeed => s.infeed.drop n
  | .hook c => (s.hook c).drop n
  | p => (s.listAt p).take ((s.listAt p).length - n)

/-- A freed record leaves the list it stands in; the others keep their order (R13, R27, R30, R32). -/
def State.unlist (s : State) (h : Handle) : State :=
  { s with
    piles := s.piles.map (·.erase h)
    stations :=
      ⟨⟨{ s.stations.one.a with records := s.stations.one.a.records.erase h },
        { s.stations.one.b with records := s.stations.one.b.records.erase h }⟩,
       ⟨{ s.stations.two.a with records := s.stations.two.a.records.erase h },
        { s.stations.two.b with records := s.stations.two.b.records.erase h }⟩⟩
    infeed := s.infeed.erase h
    hooks := ⟨s.hooks.one.erase h, s.hooks.two.erase h⟩ }

def allBeds : List Bed := [.one, .two]
def allCranes : List Crane := [.one, .two]
def allStations : List Station := [.a, .b]

/-- The place field of a record (01, record field table): the list that names it, with its level or hook position. -/
def State.placeOf (s : State) (h : Handle) : Option RecordPlace :=
  if s.infeed.contains h then some .infeed
  else
    match allCranes.find? fun c => (s.hook c).contains h with
    | some c => some (.hook c ((s.hook c).idxOf h))
    | none =>
      match (allBeds.flatMap fun b => allStations.map fun st => (b, st)).find?
          fun q => (s.station q.1 q.2).records.contains h with
      | some (b, st) => some (.station b st)
      | none =>
        match (List.range Config.stackCount).find? fun n => (s.pile n).contains h with
        | some n => some (.stack n ((s.pile n).idxOf h))
        | none => none

/-- The stack a record lies in, if it lies in one. -/
def State.stackOf (s : State) (h : Handle) : Option Nat :=
  (List.range Config.stackCount).find? fun n => (s.pile n).contains h

/-- R4: the slot becomes FREE, keeps its generation, and its record leaves its list. The notices and the end of a waiting
order belong to the command that frees. -/
def State.freeRecord (s : State) (h : Handle) : State :=
  (s.unlist h).setSlot h.index ⟨(s.slot h.index).gen, none⟩

/-! ### Tables per bed, per crane, per link -/

def State.modQuiesce (s : State) (b : Bed) (f : Quiesce → Quiesce) : State :=
  { s with quiesce := s.quiesce.set b (f (s.quiesce.get b)) }

def State.modRunway (s : State) (c : Crane) (f : Runway → Runway) : State :=
  { s with runway := s.runway.set c (f (s.runway.get c)) }

def State.modLink (s : State) (l : Link) (f : LinkState → LinkState) : State :=
  { s with links := s.links.set l (f (s.links.get l)) }

def State.modArc (s : State) (b : Bed) (f : ArcCapture → ArcCapture) : State :=
  { s with arcs := s.arcs.set b (f (s.arcs.get b)) }

def State.setClaim (s : State) (b : Bed) (n : Option Nest) : State := { s with claims := s.claims.set b n }

def State.linkUp (s : State) (l : Link) : Bool := (s.links.get l).up

def State.arcOn (s : State) (b : Bed) : Bool := (s.arcs.get b).rise.isSome

/-- The place of a bed's active station. -/
def State.activePlace (s : State) (b : Bed) : Place := .station b (s.active.get b)

/-- The records on a bed's active station, in station list order. -/
def State.activeRecords (s : State) (b : Bed) : List Handle := (s.station b (s.active.get b)).records

/-! ### Notices (R191, R192) -/

/-- The class of a notice on the office link (R192). HOLD COMPLETE has none, nor have the notices of other links. -/
def Notice.cls : Notice → Option NoticeClass
  | .start .. | .retired .. => some .stock
  | .incomplete .. | .recallEnd .. | .markFailed .. | .nestDone _ => some .nest
  | .consumable .. => some .consumable
  | .orderEnd _ | .quiesceTimeout .. => some .crane
  | .fault .. | .faultCleared .. | .forced .. | .degraded .. | .estop _ | .estopClear | .breach .. | .breachCleared _ =>
      some .fault
  | .holdComplete _ | .recall .. | .stopContour .. | .park _ | .resume _ | .markWaived .. | .orderGranted _
  | .orderHalted .. => none

def ClassMask.admits (m : ClassMask) : NoticeClass → Bool
  | .stock => m.stock
  | .nest => m.nest
  | .consumable => m.consumable
  | .crane => m.crane
  | .fault => m.fault

/-- Whether a notice addressed to a link is placed at all: the office's mask may exclude its class (R192). -/
def State.noticeWanted (s : State) (l : Link) (n : Notice) : Bool :=
  match l with
  | .office => n.cls.all s.mask.admits
  | _ => true

/-- R191: while the link is UP and no notice is under transmission, the oldest one begins: its status byte takes the dropped
count, and the count returns to 0 (log 7). -/
def LinkState.transmit (q : LinkState) : LinkState :=
  if q.up && q.sending.isNone && !q.queue.isEmpty then { q with sending := some q.dropped, dropped := 0 } else q

/-- R191: a notice joins the queue, or is dropped and counted when the queue holds 16. -/
def LinkState.enqueue (q : LinkState) (n : Notice) : LinkState :=
  (if q.queue.length < Config.queueDepth then { q with queue := q.queue ++ [n] }
   else { q with dropped := min Config.maxDropped (q.dropped + 1) }).transmit

/-- Places a notice for a link (R191, R192). -/
def State.notify (s : State) (l : Link) (n : Notice) : State :=
  if s.noticeWanted l n then s.modLink l (·.enqueue n) else s

/-! ### Shared entries of the order table (R175, R176) -/

def sharedNumbers : List Nat := [2, 3, 4, 5, 6, 7]

/-- The entry numbers of the order table (R175). -/
def entryNumbers : List Nat := [0, 1] ++ sharedNumbers

/-- The bed whose quiesce entry a reserved entry number is (R175). -/
def bedOfEntry : Nat → Option Bed
  | 0 => some .one
  | 1 => some .two
  | _ => none

/-- The reserved entry number of a bed's quiesce entry (R175). -/
def entryOfBed : Bed → Nat
  | .one => 0
  | .two => 1

def State.entry (s : State) (e : Nat) : Option Entry :=
  if 2 ≤ e then (s.shared[e - 2]?).getD none else none

def State.setEntry (s : State) (e : Nat) (v : Option Entry) : State :=
  if 2 ≤ e then { s with shared := s.shared.setIfInBounds (e - 2) v } else s

/-- The lowest-numbered free shared entry (R177). -/
def State.freeEntry (s : State) : Option Nat := sharedNumbers.find? fun e => (s.entry e).isNone

def State.orderAt (s : State) (e : Nat) : Option Order :=
  match s.entry e with
  | some (.order o) => some o
  | _ => none

/-- The live crane orders with their entry numbers, in entry order. -/
def State.orders (s : State) : List (Nat × Order) :=
  sharedNumbers.filterMap fun e => (s.orderAt e).map fun o => (e, o)

def Order.ref (o : Order) : OrderRef := ⟨o.crane, o.tag⟩

/-- The live order of a crane under a tag. -/
def State.findOrder (s : State) (r : OrderRef) : Option (Nat × Order) := s.orders.find? fun q => q.2.ref = r

/-- The crane's active order: its one order that is not QUEUED (R153). -/
def State.activeOrder (s : State) (c : Crane) : Option (Nat × Order) :=
  s.orders.find? fun q => q.2.crane = c && q.2.stage ≠ .queued

/-- The order behind the active one. -/
def State.queuedOrder (s : State) (c : Crane) : Option (Nat × Order) :=
  s.orders.find? fun q => q.2.crane = c && q.2.stage = .queued

def State.modOrder (s : State) (e : Nat) (f : Order → Order) : State :=
  match s.orderAt e with
  | some o => s.setEntry e (some (.order (f o)))
  | none => s

/-- The live recalls with their entry numbers. -/
def State.recalls (s : State) : List (Nat × Recall) :=
  sharedNumbers.filterMap fun e =>
    match s.entry e with
    | some (.recall r) => some (e, r)
    | _ => none

/-- The outstanding recall of a record. -/
def State.recallOf (s : State) (h : Handle) : Option (Nat × Recall) := s.recalls.find? fun q => q.2.handle = h

/-- The hall hold: its entry and its tag. -/
def State.hold (s : State) : Option (Nat × Nat) :=
  sharedNumbers.findSome? fun e =>
    match s.entry e with
    | some (.hold t) => some (e, t)
    | _ => none

/-- The tags live on the office link: its recalls and its hold share them (R176). -/
def State.officeTags (s : State) : List Nat :=
  s.recalls.map (·.2.tag) ++ (s.hold.map (·.2)).toList

/-- The tags live on a crane link. -/
def State.craneTags (s : State) (c : Crane) : List Nat :=
  (s.orders.filter fun q => q.2.crane = c).map (·.2.tag)

/-! ### Cause sets (R163) -/

def CauseSet.has (k : CauseSet) : Cause → Bool
  | .operator => k.operator
  | .estop => k.estop
  | .hallHold => k.hallHold
  | .link => k.link
  | .breach => k.breach
  | .arcFault => k.arcFault
  | .timeout => k.timeout
  | .overload => k.overload
  | .misplaced => k.misplaced

def CauseSet.put (k : CauseSet) (c : Cause) (v : Bool) : CauseSet :=
  match c with
  | .operator => { k with operator := v }
  | .estop => { k with estop := v }
  | .hallHold => { k with hallHold := v }
  | .link => { k with link := v }
  | .breach => { k with breach := v }
  | .arcFault => { k with arcFault := v }
  | .timeout => { k with timeout := v }
  | .overload => { k with overload := v }
  | .misplaced => { k with misplaced := v }

def CauseSet.add (k : CauseSet) (c : Cause) : CauseSet := k.put c true
def CauseSet.drop (k : CauseSet) (c : Cause) : CauseSet := k.put c false

def CauseSet.union (k m : CauseSet) : CauseSet :=
  { operator := k.operator || m.operator, estop := k.estop || m.estop, hallHold := k.hallHold || m.hallHold,
    link := k.link || m.link, breach := k.breach || m.breach, arcFault := k.arcFault || m.arcFault,
    timeout := k.timeout || m.timeout, overload := k.overload || m.overload, misplaced := k.misplaced || m.misplaced }

def CauseSet.only (c : Cause) : CauseSet := noCauses.add c

/-- The causes that RESUME removes are OPERATOR and TIMEOUT; any other makes it refuse (R165). -/
def CauseSet.blocksResume (k : CauseSet) : Bool := (k.drop .operator).drop .timeout ≠ noCauses

end Sys2Proof.Machine
end

