-- ==== Sys2Proof/Machine/Places.lean ====
section
/-! DEFINITION. The place map's decoding and room checks (R22 to R25, R35, R36). Decoding reads a configuration, so that
CONFIG END can ask it of the staged one and every other block of the committed one. -/

namespace Sys2Proof.Machine

open Sys2Proof

/-! ### Zones -/

def HallConfig.zone (c : HallConfig) (i : Nat) : Zone := c.zones[i]?.getD defaultZone

def HallConfig.stack (c : HallConfig) (n : Nat) : StackConfig := c.stackTable[n]?.getD defaultStack

def HallConfig.grade (c : HallConfig) (g : Nat) : Grade := c.grades[g]?.getD defaultGrade

/-- The valid entries with their indices, in ascending index. -/
def HallConfig.validZones (c : HallConfig) : List (Nat × Zone) :=
  ((List.range Config.zoneCount).map fun i => (i, c.zone i)).filter fun q => q.2.valid

def Zone.holds (z : Zone) (x : Nat) : Bool := z.xLo ≤ x && x < z.xHi

/-- R23: the valid entry whose range holds x, or NO_ZONE. -/
def HallConfig.zoneAt (c : HallConfig) (x : Nat) : Option (Nat × Zone) := c.validZones.find? fun q => q.2.holds x

/-- R24: the lane of a y in a STACKING zone, or NO_LANE. -/
def laneAt (lanes yLo yHi : Nat) (y : Int) : Option Nat :=
  if (yLo : Int) ≤ y ∧ y < yHi then some ((y.toNat - yLo) * lanes / (yHi - yLo)) else none

/-- R25: the place a full position decodes to, if any. -/
def HallConfig.placeAt (c : HallConfig) (x : Nat) (y : Int) : Option Place :=
  match c.zoneAt x with
  | none => none
  | some (_, z) =>
    match z.kind with
    | .infeed => some .infeed
    | .stacking lanes yLo yHi laneList =>
      match laneAt lanes yLo yHi y with
      | some lane => laneList[lane]?.map .stack
      | none => none
    | .station b st => some (.station b st)
    | .scrap => some .scrap
    | .park => none

def ZoneKind.isInfeed : ZoneKind → Bool
  | .infeed => true
  | _ => false

def ZoneKind.isScrap : ZoneKind → Bool
  | .scrap => true
  | _ => false

def ZoneKind.lists (k : ZoneKind) (n : Nat) : Bool :=
  match k with
  | .stacking _ _ _ laneList => laneList.contains n
  | _ => false

def ZoneKind.isStation (k : ZoneKind) (b : Bed) (st : Station) : Bool :=
  match k with
  | .station b' st' => b' = b && st' = st
  | _ => false

/-- A stack is in use while a valid STACKING entry names it (R25). -/
def HallConfig.inUse (c : HallConfig) (n : Nat) : Bool := c.validZones.any fun q => q.2.kind.lists n

def HallConfig.hasInfeed (c : HallConfig) : Bool := c.validZones.any fun q => q.2.kind.isInfeed

def HallConfig.hasScrap (c : HallConfig) : Bool := c.validZones.any fun q => q.2.kind.isScrap

/-- R25: which places exist. -/
def HallConfig.exists_ (c : HallConfig) : Place → Bool
  | .infeed => c.hasInfeed
  | .scrap => c.hasScrap
  | .station _ _ => true
  | .stack n => c.inUse n
  | .hook _ => true

/-- The zone entry of a station (R22 gives each station exactly one). -/
def HallConfig.stationZone (c : HallConfig) (b : Bed) (st : Station) : Option Zone :=
  (c.validZones.find? fun q => q.2.kind.isStation b st).map (·.2)

/-- The centre of a place (R26, R30, R32, R33). A hook has none. -/
def HallConfig.centre (c : HallConfig) : Place → Option Point
  | .infeed => some c.infeedCentre
  | .scrap => some c.scrapCentre
  | .station b st => some ((c.stationCentres.get b).get st)
  | .stack n => some (c.stack n).centre
  | .hook _ => none

/-! ### Room and closing -/

/-- The inbound bookings that live orders hold on a place, `except` one of them: record count and summed thickness (R37). -/
def State.inboundAt (s : State) (p : Place) (except : Option OrderRef) : Nat × Nat :=
  (s.orders.filterMap fun q =>
      match q.2.inbound with
      | some i => if i.place = p && some q.2.ref ≠ except then some (i.count, i.thickness) else none
      | none => none).foldl (fun a i => (a.1 + i.1, a.2 + i.2)) (0, 0)

/-- R35: whether a place has room for k records of summed thickness t, leaving out the booking of `except`. -/
def State.hasRoom (s : State) (p : Place) (k t : Nat) (except : Option OrderRef) : Bool :=
  match p with
  | .stack n =>
      (s.pile n).length + (s.inboundAt p except).1 + k ≤ (s.committed.stack n).countLimit &&
        s.thickness (s.pile n) + (s.inboundAt p except).2 + t ≤ (s.committed.stack n).heightLimit
  | .station b st =>
      (s.station b st).records.length + (s.inboundAt p except).1 + k ≤ Config.stationRoom &&
        !(s.station b st).skeleton
  | .scrap => true
  | .infeed => false
  | .hook _ => false

/-- Whether an order other than `except` holds an inbound booking on the place (R36). -/
def State.inboundBy (s : State) (p : Place) (except : Option OrderRef) : Bool :=
  s.orders.any fun q => (q.2.inbound.any fun i => i.place = p) && some q.2.ref ≠ except

/-- Whether a record is booked for lifting by an order other than `except`. -/
def State.bookedBy (s : State) (h : Handle) (except : Option OrderRef) : Bool :=
  (s.recordOf h).any fun r => r.booking.isSome && r.booking ≠ except

def Custody.ofBed : Custody → Bool
  | .claimed _ => true
  | .worked _ => true
  | _ => false

/-- Whether any record of a list is CLAIMED or WORKED. -/
def State.anyClaimed (s : State) (hs : List Handle) : Bool := hs.any fun h => (s.custodyOf h).any Custody.ofBed

/-- Whether a station carries a claim: a record of its list is CLAIMED or WORKED, or it is the active station of a bed that
holds a claim, which differs within a cut return alone, between the plate's retirement and the claim's end (R36, R83, log 18). -/
def State.underClaim (s : State) (b : Bed) (st : Station) : Bool :=
  s.anyClaimed (s.station b st).records || (s.active.get b = st && (s.claims.get b).isSome)

/-- R36: whether a place is closed against the order `self` as a destination or a landing place. -/
def State.closedTo (s : State) (p : Place) (self : Option OrderRef) : Bool :=
  s.inboundBy p self || ((s.listAt p).any fun h => s.bookedBy h self) ||
    (match p with
     | .station b st => s.underClaim b st
     | _ => false)

end Sys2Proof.Machine
end

