-- ==== Sys2Proof/Machine/Calc.lean ====
section
/-! DEFINITION. The load calculator (R124 to R136): record and skeleton mass, hook load, extent, span and corridor,
overlap. Every product is formed exactly, and each quotient is rounded as its rule states. -/

namespace Sys2Proof.Machine

open Sys2Proof

/-- Quotient rounded up. -/
def ceilDiv (a b : Nat) : Nat := (a + (b - 1)) / b

/-- R126. -/
def recordMass (length width thickness density : Nat) : Nat :=
  ceilDiv (length * width * thickness * density) (10 ^ 8)

/-- R127, with S in square centimetres. -/
def skeletonMass (scrap thickness density : Nat) : Nat := ceilDiv (scrap * 100 * thickness * density) (10 ^ 8)

/-- R131: a position is taken as 0 below 0 and as R above R. -/
def clamp (r : Nat) (x : Int) : Nat := if x < 0 then 0 else if (r : Int) < x then r else x.toNat

/-- R132: the interval from lo - d to hi + d with each end clamped to [0, R]. -/
def widen (r lo hi d : Nat) : Interval := ⟨clamp r ((lo : Int) - d), clamp r ((hi : Int) + d)⟩

/-- R132: the least of the lower ends and the greatest of the upper ends. -/
def Interval.hull (a b : Interval) : Interval := ⟨min a.lo b.lo, max a.hi b.hi⟩

/-- R134: two intervals overlap when they share a point; intervals that touch overlap. -/
def Interval.overlaps (a b : Interval) : Bool := a.lo ≤ b.hi && b.lo ≤ a.hi

def Interval.contains (a : Interval) (x : Nat) : Bool := a.lo ≤ x && x ≤ a.hi

/-- R134: a zone's upper bound does not belong to it, and an interval's upper end does. -/
def Zone.overlaps (z : Zone) (a : Interval) : Bool := z.xLo ≤ a.hi && a.lo < z.xHi

/-- The overlap set of R134: the valid zone entries that an interval overlaps, in ascending zone index. -/
def State.overlapSet (s : State) (a : Interval) : List (Nat × Zone) :=
  s.committed.validZones.filter fun q => q.2.overlaps a

/-- The station a zone entry names, if it is a STATION entry. -/
def ZoneKind.station? : ZoneKind → Option (Bed × Station)
  | .station b st => some (b, st)
  | _ => none

/-- The STATION entries of the overlap set, each with its zone index, bed and station (R134). -/
def State.stationsUnder (s : State) (a : Interval) : List (Nat × Bed × Station) :=
  (s.overlapSet a).filterMap fun q => q.2.kind.station?.map fun p => (q.1, p)

/-- Whether the zone of a station overlaps an interval (R44, R134). -/
def State.stationUnder (s : State) (b : Bed) (st : Station) (a : Interval) : Bool :=
  (s.stationsUnder a).any fun q => q.2 = (b, st)

/-- Whether a bed needs quiesce for an interval: the zone of its active station, as it stands when the computation is taken, is
in the overlap set (R134). -/
def State.bedUnder (s : State) (b : Bed) (a : Interval) : Bool := s.stationUnder b (s.active.get b) a

/-- R130: the extent of records of the given lengths over a beam of half length B; B when there are none. -/
def extentOf (lengths : List Nat) (b : Nat) : Nat := max (ceilDiv (lengths.foldl max 0) 2) b

def State.params (s : State) (c : Crane) : CraneParams := s.committed.cranes.get c

/-- The skeleton mass carried by the crane's live order, if one hangs (R31, R128). -/
def State.hungSkeleton (s : State) (c : Crane) : Option Nat :=
  match s.activeOrder c with
  | some (_, o) =>
    match o.skeleton with
    | .onHook m => some m
    | _ => none
  | none => none

/-- Whether records or a skeleton hang on the crane's hook. -/
def State.hookLoaded (s : State) (c : Crane) : Bool := !(s.hook c).isEmpty || (s.hungSkeleton c).isSome

/-- R128: beam tare plus what hangs on the hook. -/
def State.hookLoad (s : State) (c : Crane) : Nat :=
  (s.params c).tare + s.mass (s.hook c) + (s.hungSkeleton c).getD 0

/-- R130: the extent of what hangs on the hook. -/
def State.hookExtent (s : State) (c : Crane) : Nat :=
  if (s.hungSkeleton c).isSome then max Config.skeletonExtent (s.params c).halfLength
  else extentOf ((s.hook c).map s.lengthOf) (s.params c).halfLength

/-- What an order's load is made of before it hangs: the records it names, a station's skeleton, the hook list of a MOVE
with source HOOK, or nothing (R128, R130). -/
def State.boundMass (s : State) (o : Order) : Nat :=
  match o.kind, o.source with
  | .skeleton, some (.station b st) => (s.station b st).skeletonMass
  | .move, some (.hook c) => s.mass (s.hook c)
  | .move, _ => s.mass o.records
  | _, _ => 0

def State.boundExtent (s : State) (o : Order) : Nat :=
  match o.kind, o.source with
  | .skeleton, _ => max Config.skeletonExtent (s.params o.crane).halfLength
  | .move, some (.hook c) => extentOf ((s.hook c).map s.lengthOf) (s.params o.crane).halfLength
  | .move, _ => extentOf (o.records.map s.lengthOf) (s.params o.crane).halfLength
  | _, _ => (s.params o.crane).halfLength

/-- The hook load of an order by its occasion (R128): what hangs, once something does, else what is bound for the hook. -/
def State.loadOf (s : State) (o : Order) : Nat :=
  if s.hookLoaded o.crane then s.hookLoad o.crane else (s.params o.crane).tare + s.boundMass o

/-- The extent of an order by its occasion (R130). -/
def State.extentFor (s : State) (o : Order) : Nat :=
  if s.hookLoaded o.crane then s.hookExtent o.crane else s.boundExtent o

/-- R132: span and corridor over the positions, the crane's reported x among them, for an extent. -/
def State.sweepOver (s : State) (c : Crane) (x : Nat) (others : List Nat) (extent : Nat) : Sweep :=
  let lo := others.foldl min x
  let hi := others.foldl max x
  { span := widen s.committed.runway lo hi (extent + (s.params c).clearance)
    corridor := widen s.committed.runway lo hi (s.params c).clearance
    extent := extent }

/-- The x of a destination: a place's centre, or a TRAVEL x clamped (R131, R193). -/
def State.destX (s : State) : Destination → Nat
  | .place p => ((s.committed.centre p).map (·.x)).getD 0
  | .x x => clamp s.committed.runway x

/-- The x of an order's source, when it has still to be visited: a MOVE with source HOOK has none (R131). -/
def State.sourceX (s : State) (o : Order) : List Nat :=
  match o.source with
  | some (.hook _) => []
  | some p => ((s.committed.centre p).map (·.x)).toList
  | none => []

/-- R131 at acceptance, activation or RESUME: none for a crane that has reported no position since START. -/
def State.firstSweep (s : State) (o : Order) : Option Sweep :=
  (s.runway.get o.crane).lastX.map fun x =>
    s.sweepOver o.crane x (s.sourceX o ++ [s.destX o.dest]) (s.extentFor o)

/-- R131 at REDIRECT: the source counts while the load is still there (`atSource`). -/
def State.redirectSweep (s : State) (o : Order) (atSource : Bool) : Option Sweep :=
  (s.runway.get o.crane).lastX.map fun x =>
    s.sweepOver o.crane x ((if atSource then s.sourceX o else []) ++ [s.destX o.dest]) (s.extentFor o)

/-- R133: the interval the beam and load of a crane at x occupy with the clearance. -/
def State.extentInterval (s : State) (c : Crane) (x : Nat) : Interval :=
  widen s.committed.runway x x (s.hookExtent c + (s.params c).clearance)

/-- R133: the clearance interval around x. -/
def State.clearanceInterval (s : State) (c : Crane) (x : Nat) : Interval :=
  widen s.committed.runway x x (s.params c).clearance

end Sys2Proof.Machine
end

