-- ==== Sys2Proof/Machine/Flags.lean ====
section
/-! DEFINITION. The output lines: ARC PERMIT (R115, R116), MOTION ENABLE (R148, R149) and BEACON (R101, R102), each with the
conditions that decide it, and the operation that gives the line its level. -/

namespace Sys2Proof.Machine

open Sys2Proof

/-! ### ARC PERMIT -/

/-- The bed holds a claim on the sole record on its active station (R115). -/
def State.soleClaim (s : State) (b : Bed) : Bool :=
  match s.claims.get b with
  | some n => s.activeRecords b = [n.plate]
  | none => false

/-- R115, condition by condition. -/
def State.permitMet (s : State) (b : Bed) : PermitCondition → Bool
  | .run => s.part = .run
  | .noEStop => !s.eStop
  | .linkUp => s.linkUp (.bed b)
  | .notHold => (s.consumables.get b).state ≠ .hold
  | .noFault => (s.arcs.get b).fault.isNone
  | .soleClaim => s.soleClaim b
  | .notQuiesced =>
      match (s.quiesce.get b).state with
      | .running => true
      | .stopping => (s.quiesce.get b).allowance
      | _ => false

def permitConditions : List PermitCondition := [.run, .noEStop, .linkUp, .notHold, .noFault, .soleClaim, .notQuiesced]

def State.permitDue (s : State) (b : Bed) : Bool := permitConditions.all (s.permitMet b)

def State.setPermit (s : State) (b : Bed) (v : Bool) : State := { s with permit := s.permit.set b v }

/-- R116: the line takes its level. A permit that is down in STOPPING clears the stop allowance (R115). -/
def State.evalPermit (s : State) (b : Bed) : State :=
  if s.permitDue b then s.setPermit b true
  else (s.setPermit b false).modQuiesce b fun q => if q.state = .stopping then { q with allowance := false } else q

/-- Both beds. Where a record joins or leaves a station list the lines are evaluated too; R36 and R47 let no such change
touch a claimed station, so this moves no line that R116 does not name. -/
def State.evalPermits (s : State) : State := (s.evalPermit .one).evalPermit .two

/-! ### MOTION ENABLE -/

/-- Whether an order of the crane holds cause ARC_FAULT, in its cause set or in that of its return stage (R148, log 20). -/
def State.arcFaulted (s : State) (c : Crane) : Bool := s.orders.any fun q => q.2.crane = c && q.2.causes.arcFault

/-- R148, condition by condition. -/
def State.motionMet (s : State) (c : Crane) : MotionCondition → Bool
  | .run => s.part = .run
  | .linkUp => s.linkUp (.crane c)
  | .noEStop => !s.eStop
  | .noBreach => (s.runway.get c).breach.isNone
  | .noHallHold => s.hold.isNone
  | .spanKnown => (s.runway.get c).span.isSome
  | .noArcFault => !s.arcFaulted c

def motionConditions : List MotionCondition :=
  [.run, .linkUp, .noEStop, .noBreach, .noHallHold, .spanKnown, .noArcFault]

def State.motionDue (s : State) (c : Crane) : Bool := motionConditions.all (s.motionMet c)

/-- R149: the line takes its level. -/
def State.evalMotion (s : State) (c : Crane) : State := { s with motion := s.motion.set c (s.motionDue c) }

def State.evalMotions (s : State) : State := (s.evalMotion .one).evalMotion .two

/-! ### BEACON -/

inductive BeaconLook where
  | inactive
  | steady
  | flashing
  deriving DecidableEq, Repr

/-- R101, R102: what the two sources of a bed ask of its line. -/
def State.beaconLook (s : State) (b : Bed) : BeaconLook :=
  let mode := (s.committed.beacons.get b).mode
  let wear := (s.consumables.get b).state
  let wearOn := (mode = .consumable || mode = .both) && wear ≠ .ok
  let quiesceOn := (mode = .quiesce || mode = .both) && (s.quiesce.get b).state ≠ .running
  if wearOn && wear = .hold then .flashing
  else if wearOn || quiesceOn then .steady
  else .inactive

/-- R102: a flashing line is active while floor(hall time / 500) is even. In CONFIG the lines are inactive (R103). -/
def State.beaconDue (s : State) (b : Bed) : Bool :=
  s.part = .run &&
    match s.beaconLook b with
    | .inactive => false
    | .steady => true
    | .flashing => s.hallTime.toNat / 500 % 2 = 0

def State.evalBeacon (s : State) (b : Bed) : State := { s with beacon := s.beacon.set b (s.beaconDue b) }

/-- The electrical level of a line by its polarity: true is high (R101). -/
def State.beaconHigh (s : State) (b : Bed) : Bool :=
  match (s.committed.beacons.get b).polarity with
  | .activeHigh => s.beacon.get b
  | .activeLow => !s.beacon.get b

/-- Entry into RUN or CONFIG: every output is evaluated (R116, R149, R102, R195). -/
def State.evalOutputs (s : State) : State :=
  (((s.evalPermit .one).evalPermit .two).evalMotions.evalBeacon .one).evalBeacon .two

/-- A change of a bed's quiesce state re-evaluates its permit and its beacon (R116, R102). -/
def State.setQuiesce (s : State) (b : Bed) (f : Quiesce → Quiesce) : State :=
  ((s.modQuiesce b f).evalPermit b).evalBeacon b

end Sys2Proof.Machine
end

