-- ==== Sys2Proof/Machine/Orders.lean ====
section
/-! DEFINITION. The move controller's own steps on one order: halting, entering a stage, adding and removing causes (R156,
R163), and the checks and effects of taking an order as active (R154, R155). -/

namespace Sys2Proof.Machine

open Sys2Proof

/-! ### Notices about an order -/

def State.notifyCrane (s : State) (c : Crane) (n : Notice) : State := s.notify (.crane c) n

/-- The ORDER HALTED notice of a halt or of a changed cause set (R163). -/
def Order.haltedNotice (o : Order) : Notice := .orderHalted o.tag o.causes o.remembered

/-- The beds whose holder set names the order (R106). -/
def State.holdsBed (s : State) (o : Order) (b : Bed) : Bool := (s.quiesce.get b).holders.order.get o.crane = some o.tag

def State.heldBeds (s : State) (o : Order) : PerBed Bool := ⟨s.holdsBed o .one, s.holdsBed o .two⟩

/-- What the ORDER GRANTED notice carries (R156, R193). -/
def State.grantedNotice (s : State) (o : Order) (entered : StageEntered) : Notice :=
  .orderGranted
    { tag := o.tag
      stage := entered
      span := (o.sweep.map (·.span)).getD ⟨0, 0⟩
      corridor := (o.sweep.map (·.corridor)).getD ⟨0, 0⟩
      dest := match o.dest with
        | .place p => some p
        | .x _ => none
      destX := s.destX o.dest
      held := s.heldBeds o
      load := s.loadOf o }

/-! ### Stages and causes (R163) -/

/-- The order becomes HALTED with the causes, remembering a stage; it carries no age there (R180). A halt sends ORDER
HALTED, and MOTION ENABLE is evaluated for ARC_FAULT's sake (R149). -/
def State.becomeHalted (s : State) (e : Nat) (remember : Phase) (causes : CauseSet) : State :=
  match s.orderAt e with
  | some o =>
    let o' := { o with stage := .halted, remembered := remember, causes := causes, timer := none, redirect := none }
    ((s.setEntry e (some (.order o'))).notifyCrane o.crane o'.haltedNotice).evalMotion o.crane
  | none => s

/-- The order enters PICKUP or CARRY with age 0, or RESERVING with age 0 (R180), its cause set empty. DESIGN CHOICE (log 16): a
RESUME that removes OPERATOR or TIMEOUT so sends no ORDER HALTED, since the order leaves HALTED in the same request; R163 and
R165 do not say whether that removal is a change that is reported. -/
def State.enterStage (s : State) (e : Nat) (stage : Stage) : State :=
  match s.orderAt e with
  | some o =>
    (s.setEntry e (some (.order
      { o with stage := stage, timer := some freshTimer, causes := noCauses, redirect := none }))).evalMotion o.crane
  | none => s

def Phase.stage : Phase → Stage
  | .reserving => .reserving
  | .pickup => .pickup
  | .carry => .carry

def Phase.entered : Phase → StageEntered
  | .carry => .carry
  | _ => .pickup

/-- The causes of the moment that keep an order from entering PICKUP or CARRY (R156). -/
def State.outsideCauses (s : State) (c : Crane) : CauseSet :=
  { noCauses with estop := s.eStop, hallHold := s.hold.isSome, link := !s.linkUp (.crane c) }

/-- Leaving RESERVING or a REDIRECT's wait for PICKUP or CARRY: entered with age 0 and an ORDER GRANTED notice, or HALTED
instead when causes stand, with ORDER GRANTED and then ORDER HALTED (R156, R167). -/
def State.enterGranted (s : State) (e : Nat) (phase : Phase) (causes : CauseSet) : State :=
  match s.orderAt e with
  | some o =>
    if causes = noCauses then (s.enterStage e phase.stage).notifyCrane o.crane (s.grantedNotice o phase.entered)
    else (s.notifyCrane o.crane (s.grantedNotice o .halted)).becomeHalted e phase causes
  | none => s

/-- The cause set of a HALTED order changes; a change sends ORDER HALTED (R163). -/
def State.setCauses (s : State) (e : Nat) (causes : CauseSet) : State :=
  match s.orderAt e with
  | some o =>
    if o.causes = causes then s
    else
      ((s.modOrder e fun o => { o with causes := causes }).notifyCrane o.crane
        ({ o with causes := causes }).haltedNotice).evalMotion o.crane
  | none => s

/-- Whether an event of E-STOP or of the hall hold gives the order its cause: an order in PICKUP, CARRY or HALTED, or in a
REDIRECT's wait, where it acts on the return stage (R117, R120, R163). -/
def Order.takesOutside (o : Order) : Bool :=
  match o.stage with
  | .pickup => true
  | .carry => true
  | .halted => true
  | .reserving => o.redirect.isSome
  | .queued => false

/-- Adds ESTOP, HALL_HOLD or LINK to an order (R117, R120, R172). In a REDIRECT's wait it acts on the return stage, which
becomes HALTED (R163). -/
def State.addOutside (s : State) (e : Nat) (k : Cause) : State :=
  match s.orderAt e with
  | some o =>
    match o.stage with
    | .pickup => s.becomeHalted e .pickup (CauseSet.only k)
    | .carry => s.becomeHalted e .carry (CauseSet.only k)
    | .halted => s.setCauses e (o.causes.add k)
    | .reserving =>
      (s.modOrder e fun o =>
        { o with
          causes := if o.redirect.isSome then o.causes.add k else o.causes
          redirect := o.redirect.map fun r => { r with haltedReturn := true } }).evalMotion o.crane
    | .queued => s
  | none => s

/-- Removes a cause from an order, in its cause set or in that of its return stage (R163). -/
def State.removeCause (s : State) (e : Nat) (k : Cause) : State :=
  match s.orderAt e with
  | some o =>
    if o.stage = .halted then s.setCauses e (o.causes.drop k)
    else (s.modOrder e fun o => { o with causes := o.causes.drop k }).evalMotion o.crane
  | none => s

/-- Does something to each live order in entry order; `keep` says which. -/
def State.forOrders (s : State) (keep : Order → Bool) (f : State → Nat → State) : State :=
  ((s.orders.filter fun q => keep q.2).map (·.1)).foldl f s

/-- The orders `keep` picks, as notices and answers list them (R97, R99, R120). DESIGN CHOICE (log 37): in the order of their
entries. -/
def State.refsOf (s : State) (keep : Order → Bool) : List OrderRef :=
  (s.orders.filter fun q => keep q.2).map (·.2.ref)

/-! ### Taking an order as active (R154, R155) -/

/-- The order with the records it names at its source (R56). -/
def State.withRecords (s : State) (o : Order) : Order :=
  match o.kind, o.source with
  | .move, some (.hook _) => { o with records := [] }
  | .move, some p => { o with records := s.liftable p o.count }
  | _, _ => { o with records := [] }

/-- The records an order will have on its hook: those it names, or the hook list for a MOVE with source HOOK (R128). -/
def State.boundRecords (s : State) (o : Order) : List Handle :=
  match o.source with
  | some (.hook c) => s.hook c
  | _ => o.records

def Place.mayBeSource (p : Place) (c : Crane) : Bool :=
  match p with
  | .hook c' => c' = c
  | .scrap => false
  | _ => true

def Place.mayBeDest : Place → Bool
  | .stack _ => true
  | .station _ _ => true
  | .scrap => true
  | _ => false

/-- First check of R154: the places exist, are allowed for the order kind, and are not one place. -/
def State.placesAllowed (s : State) (o : Order) : Bool :=
  match o.kind, o.source, o.dest with
  | .travel, _, _ => true
  | .skeleton, some (.station _ _), .place .scrap => s.committed.hasScrap
  | .move, some p, .place d =>
    p.mayBeSource o.crane && d.mayBeDest && s.committed.exists_ p && s.committed.exists_ d && p ≠ d
  | _, _, _ => false

/-- Second check of R154: the source has the records to lift. -/
def State.sourceHas (s : State) (o : Order) : Bool :=
  match o.kind, o.source with
  | .travel, _ => true
  | .skeleton, some (.station b st) => (s.station b st).skeleton
  | .move, some .infeed => o.count = 1 && !s.infeed.isEmpty
  | .move, some (.hook c) =>
      o.count = ((s.hook c).filter fun h => s.custodyOf h = some (.orphaned c)).length
  | .move, some p => o.count ≤ (s.listAt p).length && !s.inboundBy p (some o.ref)
  | _, _ => false

/-- Third check of R154: the destination has room and is not closed; SCRAP always has room (R33, R35, R36). -/
def State.destTakes (s : State) (o : Order) : Bool :=
  match o.dest with
  | .x _ => true
  | .place .scrap => true
  | .place d => s.hasRoom d o.count (s.thickness (s.boundRecords o)) (some o.ref) && !s.closedTo d (some o.ref)

/-- Fourth check of R154: the hook load fits the SWL; a MOVE with source HOOK is exempt (R129). -/
def State.loadFits (s : State) (o : Order) : Bool := s.loadOf o ≤ (s.params o.crane).swl

def Order.fromHook (o : Order) : Bool :=
  match o.kind, o.source with
  | .move, some (.hook _) => true
  | _, _ => false

/-- R56: a record at REST without a booking is bookable; any other must be waited for. -/
def Record.bookable (r : Record) : Bool := r.custody = .rest && r.booking.isNone

/-- Fifth check of R154: no record to be waited for has its wait slot taken, and no other live SKELETON order has booked
the same station's skeleton (R56). -/
def State.waitsFree (s : State) (o : Order) : Bool :=
  (o.records.all fun h => (s.recordOf h).all fun r => r.bookable || r.waitSlot.isNone) &&
    (o.kind ≠ .skeleton ||
      s.orders.all fun q => q.2.ref = o.ref || q.2.skeleton ≠ .booked || q.2.source ≠ o.source)

/-- R154: the code of the first check that fails. -/
def State.acceptance (s : State) (o : Order) : Option Status :=
  if !s.placesAllowed o then some .badPlace
  else if !s.sourceHas o then some .notTop
  else if !s.destTakes o then some .noRoom
  else if !(o.fromHook || s.loadFits o) then some .overload
  else if !s.waitsFree o then some .busy
  else none

/-- The end condition of a QUEUED order whose activation fails with a code (R171). -/
def refusalOf : Status → EndCondition
  | .badPlace => .refusedBadPlace
  | .notTop => .refusedNotTop
  | .noRoom => .refusedNoRoom
  | .overload => .refusedOverload
  | _ => .refusedBusy

/-- R56: each bookable record is booked by the order; each other one takes the order in its wait slot. -/
def Record.bookOrWait (r : Record) (ref : OrderRef) : Record :=
  if r.bookable then { r with booking := some ref } else { r with waitSlot := some ref }

/-- The inbound booking an accepted order places (R37). -/
def State.inboundFor (s : State) (o : Order) : Option Inbound :=
  match o.dest with
  | .place (.stack n) => some ⟨.stack n, o.count, s.thickness (s.boundRecords o)⟩
  | .place (.station b st) => some ⟨.station b st, o.count, s.thickness (s.boundRecords o)⟩
  | _ => none

/-- R155: the order, with its records, becomes the crane's active order in RESERVING at entry e. The request for its span
is a task of its own. -/
def State.takeOrder (s : State) (e : Nat) (o : Order) : State :=
  let o' := { o with
    stage := .reserving
    timer := some freshTimer
    skeleton := if o.kind = .skeleton then .booked else .none
    sweep := s.firstSweep o
    inbound := s.inboundFor o }
  (o.records.foldl (fun s h => s.modRecord h fun r => r.bookOrWait o.ref) s).setEntry e (some (.order o'))

/-- Whether every record of the order is booked by it (R59). -/
def State.allBooked (s : State) (o : Order) : Bool :=
  o.records.all fun h => (s.recordOf h).any fun r => r.booking = some o.ref

/-- Whether the order's records still stand as its source names them (R59). -/
def State.stillNamed (s : State) (o : Order) : Bool :=
  match o.source with
  | some p => o.records.all fun h => (s.liftable p o.count).contains h
  | none => true

/-! ### Breaches (R142) -/

/-- A breach latches the crane, lowers MOTION ENABLE and sends BREACH to the crane and the office. -/
def State.breachNow (s : State) (c : Crane) (kind : BreachKind) (x : Nat) (order : Option (Nat × Interval)) : State :=
  let n := Notice.breach c kind x (s.runway.get c).span order (s.runway.get c.other).span
  (((s.modRunway c fun r => { r with breach := some ⟨kind, x, s.hallTime⟩ }).evalMotion c).notifyCrane c n).notify .office n

def State.setSpan (s : State) (c : Crane) (v : Option CraneSpan) : State :=
  (s.modRunway c fun r => { r with span := v }).evalMotion c

/-- Whether an interval overlaps the other crane's known span. -/
def State.hitsOther (s : State) (c : Crane) (a : Interval) : Bool :=
  (s.runway.get c.other).span.any fun b => a.overlaps b.range

/-! ### Recalls -/

/-- The recall of a record ends: its entry is freed and RECALL END goes to the office with the custody after the end
(R61). Nothing happens when none is outstanding. -/
def State.endRecall (s : State) (h : Handle) (outcome : RecallOutcome) : State :=
  match s.recallOf h with
  | some (e, r) => (s.setEntry e none).notify .office (.recallEnd r.tag h outcome (s.custodyOf h))
  | none => s

end Sys2Proof.Machine
end

