-- ==== Sys2Proof/Machine/Agenda.lean ====
section
/-! DEFINITION. What one event sets off in other blocks: bookings served, spans granted, beds held and released, orders
ended and activated. Each such consequence is a `Task`; `perform` carries one out and names the tasks that follow from it,
and `settle` works an agenda off, first task first, within the event (R10: an event is taken whole; log 11). -/

namespace Sys2Proof.Machine

open Sys2Proof

inductive Task where
  /-- The order at an entry ends (R170). -/
  | endOrder (e : Nat) (condition : EndCondition) (landedAt : Option Place)
  /-- A booking of a record still at its source is removed (R57). -/
  | unbook (h : Handle) (ref : OrderRef)
  /-- A record at REST without a booking serves its wait slot (R59). -/
  | serve (h : Handle)
  /-- The crane's order asks for its span once every record is booked and the span is computed (R155). -/
  | request (c : Crane)
  /-- The crane's pending request is examined (R143, R144). -/
  | examine (c : Crane)
  /-- The order granted a span asks for holds on the beds under it (R45, R156, R167). -/
  | askHolds (c : Crane)
  /-- A holder joins a bed (R107, R108). -/
  | join (b : Bed) (holder : Holder)
  /-- The bed becomes QUIESCED and grants its holders (R111, R114). -/
  | quiesced (b : Bed)
  /-- A hold is granted and reported to its owner (R106, R118). -/
  | granted (b : Bed) (holder : Holder)
  /-- The crane's order leaves RESERVING, or its REDIRECT completes, if every hold has been granted (R156, R167). -/
  | settleOrder (c : Crane)
  /-- A holder leaves a bed; an emptied set closes the session (R110). -/
  | leave (b : Bed) (holder : Holder)
  /-- A REDIRECT completes: the order returns to its return stage (R167). -/
  | finishRedirect (e : Nat)
  /-- The inbound booking and a booked skeleton are released (R170). -/
  | releaseRoom (e : Nat)
  /-- The span of an ending order is withdrawn; `blocked`: it ends BLOCKED (R145). -/
  | withdraw (e : Nat) (blocked : Bool)
  /-- The MOVE span goes back to a REST span (R145). -/
  | restSpan (c : Crane)
  /-- The entry is freed and the ORDER END notices are sent (R170). -/
  | finish (e : Nat) (condition : EndCondition) (landedAt : Option Place)
  /-- The crane's QUEUED order is activated (R171). -/
  | activate (c : Crane)
  /-- The order computes its span at the crane's first position and asks for it (R140, R155). -/
  | position (c : Crane)
  /-- The order gives up its span request and holds the causes (R157). -/
  | giveUp (e : Nat) (causes : CauseSet)
  /-- The order is given BREACH or ARC_FAULT (R97, R141, R163). -/
  | fault (e : Nat) (k : Cause)
  /-- The order is given TIMEOUT, OVERLOAD or MISPLACED (R159, R162, R168). -/
  | burden (e : Nat) (causes : CauseSet)
  deriving DecidableEq, Repr

/-! ### Holder sets -/

def HolderSet.put (h : HolderSet) : Holder → HolderSet
  | .order r => { h with order := h.order.set r.crane (some r.tag) }
  | .hall => { h with hall := true }

def HolderSet.has (h : HolderSet) : Holder → Bool
  | .order r => h.order.get r.crane = some r.tag
  | .hall => h.hall

def HolderSet.drop (h : HolderSet) : Holder → HolderSet
  | .order r => { h with order := h.order.set r.crane none }
  | .hall => { h with hall := false }

/-- The members, crane 1, crane 2, then HALL. -/
def HolderSet.members (h : HolderSet) : List Holder :=
  (allCranes.filterMap fun c => (h.order.get c).map fun t => Holder.order ⟨c, t⟩) ++
    (if h.hall then [Holder.hall] else [])

/-- The session number after n (R105). -/
def nextSession (n : Nat) : Nat := if n = 255 then 1 else n + 1

/-- R107: a holder that joins a RUNNING bed opens a session. -/
def State.openSession (s : State) (b : Bed) (holder : Holder) : State × List Task :=
  let session := nextSession (s.quiesce.get b).session
  let opened := fun (state : QuiesceState) (allowance degraded : Bool) =>
    s.setQuiesce b fun q =>
      { q with
        state := state, holders := q.holders.put holder, session := session, allowance := allowance, parked := false,
        degraded := degraded, timer := some freshTimer }
  if s.linkUp (.bed b) then
    match s.claims.get b with
    | some n =>
      ((opened .stopping (s.permit.get b) false).notify (.bed b) (.stopContour session (some n.plate)), [])
    | none => ((opened .parking false false).notify (.bed b) (.park session), [])
  else (opened .parking false true, if s.arcOn b then [] else [.quiesced b])

/-- R107, R108. -/
def doJoin (s : State) (b : Bed) (holder : Holder) : State × List Task :=
  match (s.quiesce.get b).state with
  | .running => s.openSession b holder
  | .quiesced => (s.modQuiesce b fun q => { q with holders := q.holders.put holder }, [.granted b holder])
  | _ => (s.modQuiesce b fun q => { q with holders := q.holders.put holder }, [])

/-- R111, R114: QUIESCED is untimed; a degraded session reports itself; every holder is granted. DESIGN CHOICE (log 33): the
DEGRADED notice goes first, then the grants of crane 1, crane 2 and HALL, so that HOLD COMPLETE follows DEGRADED. -/
def doQuiesced (s : State) (b : Bed) : State × List Task :=
  let q := s.quiesce.get b
  let s' := s.setQuiesce b fun q => { q with state := .quiesced, timer := none }
  let s'' := if q.degraded then s'.notify .office (.degraded b q.session q.holders.members) else s'
  (s'', q.holders.members.map (.granted b))

/-- Whether the hall hold has received a bed's grant: the bed is QUIESCED with HALL in its set (R118). -/
def State.hallGranted (s : State) (b : Bed) : Bool :=
  (s.quiesce.get b).state = .quiesced && (s.quiesce.get b).holders.hall

/-- R106, R118: a crane order may now leave RESERVING; the hall hold may now be complete. -/
def doGranted (s : State) (_b : Bed) (holder : Holder) : State × List Task :=
  match holder with
  | .order r => (s, [.settleOrder r.crane])
  | .hall =>
    match s.hold with
    | some (_, tag) =>
      if s.hallGranted .one && s.hallGranted .two then (s.notify .office (.holdComplete tag), []) else (s, [])
    | none => (s, [])

/-- R110: the session closes with a RESUME notice. -/
def State.closeSession (s : State) (b : Bed) : State :=
  (s.setQuiesce b fun q =>
      { q with state := .running, holders := noHolders, allowance := false, parked := false, degraded := false,
               timer := none }).notify (.bed b) (.resume (s.quiesce.get b).session)

/-- R110: a holder that is no member leaves nothing behind. -/
def doLeave (s : State) (b : Bed) (holder : Holder) : State × List Task :=
  let q := s.quiesce.get b
  if q.holders.has holder then
    if q.holders.drop holder = noHolders ∧ q.state ≠ .running then (s.closeSession b, [])
    else (s.modQuiesce b fun q => { q with holders := q.holders.drop holder }, [])
  else (s, [])

/-! ### Spans -/

/-- R155: a first request is made when every record is booked and the span is computed. -/
def doRequest (s : State) (c : Crane) : State × List Task :=
  match s.activeOrder c with
  | some (_, o) =>
    match o.sweep with
    | some w =>
      if o.stage = .reserving ∧ o.redirect = none ∧ o.spanHeld = false ∧ s.allBooked o then
        (s.modRunway c fun r => { r with request := some ⟨o.tag, w⟩ }, [.examine c])
      else (s, [])
    | none => (s, [])
  | none => (s, [])

/-- The order's figures once the runway controller has granted them (R143, R146). DESIGN CHOICE (log 38): `before`, to which a
REDIRECT given up returns (R157), takes the figures that stand at the grant, widened by a CLEAR BREACH of the wait too (R147). -/
def Order.granted (o : Order) (w : Sweep) : Order :=
  { o with sweep := some w, spanHeld := true,
           redirect := o.redirect.map fun r => { r with cleared := true, before := o.sweep } }

/-- R143: the hull of the request's span with the crane's own span, when both spans are known and the hull does not overlap
the other crane's span. -/
def State.grantableHull (s : State) (c : Crane) : Option (SpanRequest × Interval) :=
  match (s.runway.get c).request, (s.runway.get c).span, (s.runway.get c.other).span with
  | some q, some own, some other =>
    if (q.sweep.span.hull own.range).overlaps other.range then none else some (q, q.sweep.span.hull own.range)
  | _, _, _ => none

/-- R143, R144: a granted request becomes the crane's MOVE span; the holds follow, then the other crane's request. -/
def doExamine (s : State) (c : Crane) : State × List Task :=
  match s.grantableHull c with
  | some (q, hull) =>
    let s' := (s.setSpan c (some ⟨.move, hull⟩)).modRunway c fun r => { r with request := none }
    match s'.findOrder ⟨c, q.tag⟩ with
    | some (e, _) => (s'.modOrder e fun o => o.granted q.sweep, [.askHolds c, .examine c.other])
    | none => (s', [.examine c.other])
  | none => (s, [])

/-- R45, R156, R167: the beds under the order's span that it does not hold yet are joined; a REDIRECT marks them. DESIGN CHOICE
(log 33): of two beds, bed 1 is asked first. -/
def doAskHolds (s : State) (c : Crane) : State × List Task :=
  match s.activeOrder c with
  | some (e, o) =>
    match o.sweep with
    | some w =>
      let joins := allBeds.filter fun b => s.bedUnder b w.span && !s.holdsBed o b
      (s.modOrder e fun o =>
          { o with redirect := o.redirect.map fun r => { r with joined := joins.foldl (fun j b => j.set b true) r.joined } },
        joins.map (fun b => .join b (.order o.ref)) ++ [.settleOrder c])
    | none => (s, [])
  | none => (s, [])

/-- Whether the order needs a bed's hold: its span lies over the zone of the bed's active station, so that it holds the bed or
is about to ask for it in the same event, or it has joined the bed (R45, R106). In a REDIRECT's wait only the beds joined for
the new span count so, not those of the old one (R167). DEDUCED (log 15): a bed held from before is in the new overlap set when
the new span lies over its active station as the REDIRECT completes. -/
def State.needsBed (s : State) (o : Order) (b : Bed) : Bool :=
  (s.holdsBed o b && o.redirect.all fun r => r.joined.get b) || o.sweep.any fun w => s.bedUnder b w.span

/-- Whether every bed the order needs has granted: the order is in its holder set and the bed is QUIESCED (R106, R108). -/
def State.holdsGranted (s : State) (o : Order) : Bool :=
  allBeds.all fun b => !s.needsBed o b || (s.holdsBed o b && (s.quiesce.get b).state = .quiesced)

/-- The causes an order meets on leaving RESERVING for the first time: those of the moment, and OVERLOAD for a MOVE with
source HOOK whose load does not fit (R156). -/
def State.leavingCauses (s : State) (o : Order) : CauseSet :=
  { s.outsideCauses o.crane with overload := o.fromHook && !s.loadFits o }

/-- Where an order goes from RESERVING (R156). -/
def Order.target (o : Order) : Phase :=
  if o.kind = .travel || o.fromHook then .carry else .pickup

/-- R156, R167. Beds a REDIRECT leaves behind lose the order before it returns. -/
def doSettleOrder (s : State) (c : Crane) : State × List Task :=
  match s.activeOrder c with
  | some (e, o) =>
    if o.stage = .reserving ∧ s.holdsGranted o then
      match o.redirect with
      | none => if o.spanHeld then (s.enterGranted e o.target (s.leavingCauses o), []) else (s, [])
      | some r =>
        if r.cleared then
          (s, (allBeds.filter fun b => s.holdsBed o b && !s.needsBed o b).map
                (fun b => .leave b (.order o.ref)) ++ [.finishRedirect e])
        else (s, [])
    else (s, [])
  | none => (s, [])

/-- R167: PICKUP or CARRY under E-STOP, a hall hold or a DOWN link is HALTED instead; a HALTED return is HALTED again. DESIGN
CHOICE (log 33): a return to HALTED sends ORDER GRANTED before ORDER HALTED, as R156 orders them for an order that leaves
RESERVING; R167 lists the return before ORDER GRANTED and says nothing of ORDER HALTED. -/
def doFinishRedirect (s : State) (e : Nat) : State × List Task :=
  match s.orderAt e with
  | some o =>
    match o.redirect with
    | some r =>
      if r.haltedReturn then ((s.notifyCrane o.crane (s.grantedNotice o .halted)).becomeHalted e o.remembered o.causes, [])
      else (s.enterGranted e o.remembered (s.outsideCauses o.crane), [])
    | none => (s, [])
  | none => (s, [])

/-- R145: a MOVE span becomes the extent interval at the last reported x, or keeps its interval as REST when the crane is
breached or the interval would overlap the other crane's span (a breach of kind END). -/
def doRestSpan (s : State) (c : Crane) : State × List Task :=
  let keep := (s.runway.get c).span.map fun v => { v with kind := SpanKind.rest }
  match (s.runway.get c).lastX with
  | some x =>
    let a := s.extentInterval c x
    if (s.runway.get c).breach.isSome then (s.setSpan c keep, [.examine c.other])
    else if s.hitsOther c a then ((s.setSpan c keep).breachNow c .ending x none, [.examine c.other])
    else (s.setSpan c (some ⟨.rest, a⟩), [.examine c.other])
  | none => (s.setSpan c keep, [.examine c.other])

/-- R145: a granted span is withdrawn; an order that ends BLOCKED before its grant sets its crane's span again to the value
it had; any other end leaves the span as it stood. -/
def doWithdraw (s : State) (e : Nat) (blocked : Bool) : State × List Task :=
  match s.orderAt e with
  | some o =>
    if o.spanHeld then (s.modOrder e fun o => { o with spanHeld := false }, [.restSpan o.crane])
    else (s, if blocked then [.examine o.crane.other] else [])
  | none => (s, [])

/-- R140, R155: an order that waited for a position computes its span and asks for it. -/
def doPosition (s : State) (c : Crane) : State × List Task :=
  match s.activeOrder c with
  | some (e, o) =>
    if o.stage = .reserving ∧ o.sweep = none then
      (s.modOrder e fun o => { o with sweep := s.firstSweep o }, [.request c])
    else (s, [])
  | none => (s, [])

/-! ### Bookings -/

/-- R57, R59. -/
def doUnbook (s : State) (h : Handle) (ref : OrderRef) : State × List Task :=
  match s.recordOf h with
  | some r =>
    if r.booking = some ref then (s.modRecord h fun r => { r with booking := none }, [.serve h]) else (s, [])
  | none => (s, [])

/-- R59: the order in the wait slot books the record; if its records no longer stand as its source names them it ends
REFUSED(NOT_TOP), else it goes on to its span request once all are booked. -/
def doServe (s : State) (h : Handle) : State × List Task :=
  match s.recordOf h with
  | some r =>
    match r.waitSlot with
    | some ref =>
      if r.custody = .rest ∧ r.booking = none then
        match s.findOrder ref with
        | some (e, o) =>
          let s' := s.modRecord h fun r => { r with booking := some ref, waitSlot := none }
          if s'.stillNamed o then (s', [.request o.crane]) else (s', [.endOrder e .refusedNotTop none])
        | none => (s, [])
      else (s, [])
    | none => (s, [])
  | none => (s, [])

/-! ### Ends and activation -/

/-- A request of the order is withdrawn, so that nothing grants an order that is ending (R170, log 12). -/
def State.dropRequest (s : State) (o : Order) : State :=
  s.modRunway o.crane fun r => { r with request := r.request.filter fun q => q.tag ≠ o.tag }

/-- Every wait slot the order holds is cleared (R58). -/
def State.clearWaits (s : State) (o : Order) : State :=
  o.records.foldl (fun s h => s.modRecord h fun r =>
    if r.waitSlot = some o.ref then { r with waitSlot := none } else r) s

/-- R170, in its order. A QUEUED order releases nothing but its entry and activates nothing. -/
def doEndOrder (s : State) (e : Nat) (condition : EndCondition) (landedAt : Option Place) : State × List Task :=
  match s.orderAt e with
  | some o =>
    if o.stage = .queued then (s, [.finish e condition landedAt])
    else
      ((s.dropRequest o).clearWaits o,
        o.records.map (fun h => .unbook h o.ref) ++
          [.releaseRoom e, .withdraw e (condition = .blocked), .leave .one (.order o.ref), .leave .two (.order o.ref),
           .finish e condition landedAt, .activate o.crane])
  | none => (s, [])

def doReleaseRoom (s : State) (e : Nat) : State × List Task :=
  (s.modOrder e fun o => { o with inbound := none, skeleton := .none }, [])

def Order.endReport (o : Order) (condition : EndCondition) (landedAt : Option Place) : Notice :=
  .orderEnd { crane := o.crane, tag := o.tag, condition := condition, landedAt := landedAt, short := o.short,
              left := o.left, extras := o.extras }

/-- R170: the entry is freed; ORDER END goes to the crane and to the office. -/
def doFinish (s : State) (e : Nat) (condition : EndCondition) (landedAt : Option Place) : State × List Task :=
  match s.orderAt e with
  | some o =>
    ((((s.setEntry e none).evalMotion o.crane).notifyCrane o.crane (o.endReport condition landedAt)).notify .office
        (o.endReport condition landedAt), [])
  | none => (s, [])

/-- R171: the QUEUED order passes the checks of R154 and is taken, or ends REFUSED with the failing code. -/
def doActivate (s : State) (c : Crane) : State × List Task :=
  match s.queuedOrder c, s.activeOrder c with
  | some (e, o), none =>
    match s.acceptance (s.withRecords o) with
    | none => (s.takeOrder e (s.withRecords o), [.request c])
    | some code => (s, [.finish e (refusalOf code) none])
  | _, _ => (s, [])

/-! ### Giving up and gaining causes -/

/-- R157. A first request given up leaves the order HALTED with remembered stage RESERVING and no span; a REDIRECT given up
leaves it HALTED in its return stage with cause MISPLACED and the figures from before the REDIRECT. DESIGN CHOICE (log 33): the
order is HALTED before its granted span is withdrawn, so that ORDER HALTED goes before a BREACH of that withdrawal. -/
def doGiveUp (s : State) (e : Nat) (causes : CauseSet) : State × List Task :=
  match s.orderAt e with
  | some o =>
    match o.redirect with
    | some r =>
      let s' := ((s.dropRequest o).modOrder e fun o =>
        { o with sweep := if r.cleared then r.before else o.sweep }).becomeHalted e o.remembered
          ((o.causes.union causes).add .misplaced)
      (s', (allBeds.filter fun b => r.joined.get b).map fun b => .leave b (.order o.ref))
    | none =>
      let s' := ((s.dropRequest o).modOrder e fun o =>
        { o with sweep := none, spanHeld := false }).becomeHalted e .reserving (o.causes.union causes)
      (s', if o.spanHeld then [.restSpan o.crane, .leave .one (.order o.ref), .leave .two (.order o.ref)] else [])
  | none => (s, [])

/-- R163, R97, R141: an order in RESERVING, PICKUP or CARRY becomes HALTED and remembers the stage it left; in a REDIRECT's
wait it gives up the REDIRECT. -/
def doFault (s : State) (e : Nat) (k : Cause) : State × List Task :=
  match s.orderAt e with
  | some o =>
    match o.stage with
    | .pickup => (s.becomeHalted e .pickup (CauseSet.only k), [])
    | .carry => (s.becomeHalted e .carry (CauseSet.only k), [])
    | .halted => (s.setCauses e (o.causes.add k), [])
    | .reserving =>
      if o.redirect.isSome then (s, [.giveUp e (CauseSet.only k)])
      else (s.becomeHalted e .reserving (CauseSet.only k), [])
    | .queued => (s, [])
  | none => (s, [])

/-- R159, R162, R168: no causes change nothing; in RESERVING, a REDIRECT's wait included, the request is given up. -/
def doBurden (s : State) (e : Nat) (causes : CauseSet) : State × List Task :=
  if causes = noCauses then (s, [])
  else
    match s.orderAt e with
    | some o =>
      match o.stage with
      | .pickup => (s.becomeHalted e .pickup causes, [])
      | .carry => (s.becomeHalted e .carry causes, [])
      | .halted => (s.setCauses e (o.causes.union causes), [])
      | .reserving => (s, [.giveUp e causes])
      | .queued => (s, [])
    | none => (s, [])

/-! ### The agenda -/

/-- Carries out one task and names the tasks that follow from it. -/
def perform (t : Task) (s : State) : State × List Task :=
  match t with
  | .endOrder e condition landedAt => doEndOrder s e condition landedAt
  | .unbook h ref => doUnbook s h ref
  | .serve h => doServe s h
  | .request c => doRequest s c
  | .examine c => doExamine s c
  | .askHolds c => doAskHolds s c
  | .join b holder => doJoin s b holder
  | .quiesced b => doQuiesced s b
  | .granted b holder => doGranted s b holder
  | .settleOrder c => doSettleOrder s c
  | .leave b holder => doLeave s b holder
  | .finishRedirect e => doFinishRedirect s e
  | .releaseRoom e => doReleaseRoom s e
  | .withdraw e blocked => doWithdraw s e blocked
  | .restSpan c => doRestSpan s c
  | .finish e condition landedAt => doFinish s e condition landedAt
  | .activate c => doActivate s c
  | .position c => doPosition s c
  | .giveUp e causes => doGiveUp s e causes
  | .fault e k => doFault s e k
  | .burden e causes => doBurden s e causes

/-- Works an agenda off, first task first, what follows from a task before what stood behind it. -/
def runAgenda : Nat → List Task → State → State
  | 0, _, s => s
  | _ + 1, [], s => s
  | n + 1, t :: ts, s => runAgenda n ((perform t s).2 ++ ts) (perform t s).1

/-- How many tasks one event may set off (log 11). -/
def agendaBound : Nat := 1024

/-- Everything that follows from an event, within the event. -/
def State.settle (s : State) (tasks : List Task) : State := runAgenda agendaBound tasks s

/-- Carries out what a step of an event asks for. -/
def settled (r : State × List Task) : State := r.1.settle r.2

end Sys2Proof.Machine
end

