-- ==== Sys2Proof/Machine/Operands.lean ====
section
/-! DEFINITION. The operand forms of the requests: numbers and codes turned into beds, cranes, stations and places, handles
checked against the stock table (R2), texts and record contents checked against their ranges (R5, R8), and the field by
field checks of the configuration entries (R21, R26). -/

namespace Sys2Proof.Machine

open Sys2Proof

/-! ### Numbers and codes -/

def bedOf : Nat → Option Bed
  | 1 => some .one
  | 2 => some .two
  | _ => none

def craneOf : Nat → Option Crane
  | 1 => some .one
  | 2 => some .two
  | _ => none

/-- R193: 0 A, 1 B. -/
def stationOf : Nat → Option Station
  | 0 => some .a
  | 1 => some .b
  | _ => none

/-- A link by its role number (R189). -/
def linkOf : Nat → Option Link
  | 1 => some .office
  | 2 => some (.bed .one)
  | 3 => some (.bed .two)
  | 4 => some (.crane .one)
  | 5 => some (.crane .two)
  | _ => none

def roleOf : Link → Nat
  | .office => 1
  | .bed .one => 2
  | .bed .two => 3
  | .crane .one => 4
  | .crane .two => 5

/-- A place a request names, if its numbers lie in range: stacks 0 to 47, beds and cranes 1 and 2, stations A and B
(R153; a type or crane number outside its set: log 23). -/
def placeOfArg : PlaceArg → Option Place
  | .infeed => some .infeed
  | .stack n => if n < Config.stackCount then some (.stack n) else none
  | .station b st =>
    match bedOf b, stationOf st with
    | some b, some st => some (.station b st)
    | _, _ => none
  | .hook c => (craneOf c).map .hook
  | .scrap => some .scrap
  | .other _ => none

/-! ### Ranges -/

def within (lo hi v : Nat) : Bool := lo ≤ v && v ≤ hi

/-- The character set A–Z, 0–9 and '-' (R5). -/
def charOk (ch : Char) : Bool := within 65 90 ch.toNat || within 48 57 ch.toNat || ch = '-'

/-- A text of 1 to `most` characters of the set. -/
def textOk (most : Nat) (t : Text) : Bool := within 1 most t.length && t.all charOk

/-- The ranges of R5 for what is given of a record's contents; a grade must be a valid entry. -/
def State.contentsOk (s : State) (grade : Option Nat) (heat : Option Text) (length width thickness : Option Nat) : Bool :=
  grade.all (fun g => g < Config.gradeCount && (s.committed.grade g).valid) && heat.all (textOk 12) &&
    length.all (within 200 20000) && width.all (within 100 4800) && thickness.all (within 3 120)

/-- R6: the mass of a record of the committed grade. -/
def State.massFor (s : State) (grade length width thickness : Nat) : Nat :=
  recordMass length width thickness (s.committed.grade grade).density

/-! ### Replies and handles -/

/-- What a request comes to: the state after it, its status code and the body of its answer. -/
abbrev Reply := State × Status × AnswerBody

/-- A request refused, or taken, with nothing in its answer's body. -/
def State.reply (s : State) (code : Status) : Reply := (s, code, .empty)

/-- R2: a handle out of range is refused RANGE, and one that names no live record is refused STALE and named. -/
def State.withHandle (s : State) (h : Handle) (f : Record → Reply) : Reply :=
  if h.index < Config.slotCount && h.gen ≤ Config.maxGen then
    match s.recordOf h with
    | some r => f r
    | none => (s, .stale, .stale h)
  else s.reply .range

/-! ### Configuration entries -/

/-- No value twice in a list of numbers. -/
def noRepeat : List Nat → Bool
  | [] => true
  | n :: ns => !ns.contains n && noRepeat ns

/-- R21: the entry a zone write stages; none when a field lies outside its range. -/
def zoneOfArg (z : ZoneArg) : Option Zone :=
  if within 0 399999 z.xLo && within 1 400000 z.xHi && z.xLo < z.xHi then
    match z.kind with
    | .infeed => some ⟨z.valid, z.xLo, z.xHi, .infeed⟩
    | .stacking lanes yLo yHi laneList =>
      if within 1 8 lanes && within 0 399999 yLo && within 1 400000 yHi && yLo < yHi && laneList.length = lanes &&
          laneList.all (· < Config.stackCount) && noRepeat laneList then
        some ⟨z.valid, z.xLo, z.xHi, .stacking lanes yLo yHi laneList⟩
      else none
    | .station b st =>
      match bedOf b, stationOf st with
      | some b, some st => some ⟨z.valid, z.xLo, z.xHi, .station b st⟩
      | _, _ => none
    | .scrap => some ⟨z.valid, z.xLo, z.xHi, .scrap⟩
    | .park => some ⟨z.valid, z.xLo, z.xHi, .park⟩
    | .other _ => none
  else none

/-- R26. -/
def stackOfArg (k : StackArg) : Option StackConfig :=
  if k.zone < Config.zoneCount && k.lane < 8 && within 0 400000 k.x && within 0 400000 k.y && within 1 16 k.countLimit &&
      within 50 1000 k.heightLimit then
    some ⟨k.zone, k.lane, ⟨k.x, k.y⟩, k.countLimit, k.heightLimit⟩
  else none

/-- R8. -/
def gradeOfArg (g : GradeArg) : Option Grade :=
  if textOk 8 g.name && within 100 2000 g.density then some ⟨g.valid, g.name, g.density⟩ else none

/-- R26, R30, R32, R33: a centre. -/
def pointOf (x y : Nat) : Option Point := if within 0 400000 x && within 0 400000 y then some ⟨x, y⟩ else none

/-- R125. -/
def craneParamOk : CraneParam → Nat → Bool
  | .swl => within 1000 60000
  | .tare => within 0 10000
  | .halfLength => within 500 15000
  | .clearance => within 0 5000

def CraneParams.put (p : CraneParams) (k : CraneParam) (v : Nat) : CraneParams :=
  match k with
  | .swl => { p with swl := v }
  | .tare => { p with tare := v }
  | .halfLength => { p with halfLength := v }
  | .clearance => { p with clearance := v }

/-- R93. -/
def consumableOk : ConsumableItem → Nat → Bool
  | .minArc => within 5 500
  | .warnPierces => within 0 65535
  | .holdPierces => within 0 65535
  | .warnSeconds => within 0 4294967
  | .holdSeconds => within 0 4294967

def ConsumableSettings.put (c : ConsumableSettings) (k : ConsumableItem) (v : Nat) : ConsumableSettings :=
  match k with
  | .minArc => { c with minArc := v }
  | .warnPierces => { c with warnPierces := v }
  | .holdPierces => { c with holdPierces := v }
  | .warnSeconds => { c with warnSeconds := v }
  | .holdSeconds => { c with holdSeconds := v }

/-- R101: a mode or polarity outside its set is no setting. -/
def BeaconSettings.put (b : BeaconSettings) : BeaconArg → Option BeaconSettings
  | .mode m => some { b with mode := m }
  | .polarity p => some { b with polarity := p }
  | .otherMode => none
  | .otherPolarity => none

/-- R79. -/
def remnantOk : RemnantItem → Nat → Bool
  | .length => within 200 20000
  | .width => within 100 4800

/-- R179. -/
def periodOk (v : Nat) : Bool := within 100 60000 v && v % 100 = 0

/-! ### Nest declarations (R66) -/

def partOfArg (p : PartArg) : Option Part :=
  if textOk 16 p.mark && within 1 960000 p.area then
    match p.mode with
    | .mark => some { mark := p.mark, area := p.area, marking := true, state := .pending, attempts := 0, cut := false }
    | .noMark => some { mark := p.mark, area := p.area, marking := false, state := .noMark, attempts := 0, cut := false }
    | .other => none
  else none

/-- No two texts of a list alike. -/
def distinctTexts : List Text → Bool
  | [] => true
  | t :: ts => !ts.contains t && distinctTexts ts

/-- The parts in order, if every entry is in range. -/
def partsOfArgs : List PartArg → Option (List Part)
  | [] => some []
  | p :: ps =>
    match partOfArg p, partsOfArgs ps with
    | some q, some qs => some (q :: qs)
    | _, _ => none

/-- A_p of a record (R66, R81). -/
def plateArea (r : Record) : Nat := r.length * r.width / 100

/-- R66 and R67: the nest record a declaration makes for a claimed record, or the code of the first failing check. -/
def nestOfArg (h : Handle) (r : Record) (n : NestArg) : Except Status Nest :=
  if n.countAgain ≠ n.count || n.parts.length ≠ n.count then .error .format
  else
    match partsOfArgs n.parts with
    | none => .error .range
    | some parts =>
      if !(textOk 16 n.name && within 1 64 n.count) then .error .range
      else if !distinctTexts (parts.map (·.mark)) then .error .duplicate
      else if plateArea r < (parts.map (·.area)).sum then .error .overrun
      else .ok { plate := h, name := n.name, area := plateArea r, parts := parts, pierces := 0, arcTime := 0 }

end Sys2Proof.Machine
end

