-- ==== Sys2Proof/Machine/Wire.lean ====
section
/-! DEFINITION. Frames as bytes (R186, R187), the values of kinds and status codes (R188, R192), and the central bodies of
R193. The receiver's hunt is what FRAME_DISCARDED runs; `Answer.frame` and `SentNotice.frame` say which bytes go out. -/

namespace Sys2Proof.Machine

open Sys2Proof

/-! ### Bytes and CRC -/

/-- The low n bytes of v, least significant first (R186). -/
def littleEndian : Nat → Nat → List Byte
  | 0, _ => []
  | n + 1, v => BitVec.ofNat 8 v :: littleEndian n (v / 256)

/-- The value of bytes that stand least significant first. -/
def valueOf : List Byte → Nat
  | [] => 0
  | b :: bs => b.toNat + 256 * valueOf bs

/-- One bit through the divider x^16 + x^12 + x^5 + 1 (R187). -/
def crcBit (crc : BitVec 16) (bit : Bool) : BitVec 16 :=
  if crc.getLsbD 15 = bit then crc <<< 1 else (crc <<< 1) ^^^ 0x1021#16

/-- One byte, most significant bit first. -/
def crcByte (crc : BitVec 16) (b : Byte) : BitVec 16 :=
  [7, 6, 5, 4, 3, 2, 1, 0].foldl (fun c i => crcBit c (b.getLsbD i)) crc

/-- Initial value all ones, no final inversion. -/
def crc16 (bs : List Byte) : BitVec 16 := bs.foldl crcByte 0xFFFF#16

def startByte : Byte := 0xA5#8

/-- The longest body (R186, R187). -/
def maxBody : Nat := 1600

/-- A frame; the CRC covers length, kind, tag, status and body and is sent low byte first. -/
def frameBytes (kind tag status : Nat) (body : List Byte) : List Byte :=
  let covered := littleEndian 2 body.length ++ [BitVec.ofNat 8 kind, BitVec.ofNat 8 tag, BitVec.ofNat 8 status] ++ body
  startByte :: covered ++ littleEndian 2 (crc16 covered).toNat

/-! ### The receiver's hunt (R187) -/

/-- What stands at the front of the bytes received outside any frame taken so far. -/
inductive Front where
  /-- Nothing received. -/
  | nothing
  /-- A byte other than A5: discarded. -/
  | noise
  /-- A start byte whose frame is not complete yet. -/
  | incomplete
  /-- A start byte whose length exceeds 1,600 or whose CRC does not match: hunting resumes at the byte after it. -/
  | discarded
  /-- A valid frame of so many bytes. -/
  | valid (size : Nat)
  deriving DecidableEq, Repr

def frontOf : List Byte → Front
  | [] => .nothing
  | b :: bs =>
    if b ≠ startByte then .noise
    else if bs.length < 2 then .incomplete
    else if maxBody < valueOf (bs.take 2) then .discarded
    else if bs.length < valueOf (bs.take 2) + 7 then .incomplete
    else if valueOf ((bs.drop (valueOf (bs.take 2) + 5)).take 2) = (crc16 (bs.take (valueOf (bs.take 2) + 5))).toNat then
      .valid (valueOf (bs.take 2) + 8)
    else .discarded

/-- Bytes outside a frame and start bytes of discarded frames go; what is left begins with a frame that is valid or still
incomplete, or is empty. -/
def hunt : List Byte → List Byte
  | [] => []
  | b :: bs =>
    match frontOf (b :: bs) with
    | .noise => hunt bs
    | .discarded => hunt bs
    | _ => b :: bs

/-- What the receiver keeps once the request of a valid frame has been taken: the frame goes and the hunt resumes behind it. Bytes
that are no complete frame were the beginning of the one taken (log 8). -/
def afterFrame (bs : List Byte) : List Byte :=
  match frontOf bs with
  | .valid size => hunt (bs.drop size)
  | _ => []

/-- The number of valid frames among bytes received, the hunt going on behind each; `skip`: bytes still to come of the frame
counted last. -/
def countFrames : Nat → List Byte → Nat
  | _, [] => 0
  | skip + 1, _ :: bs => countFrames skip bs
  | 0, b :: bs =>
    match frontOf (b :: bs) with
    | .valid size => countFrames (size - 1) bs + 1
    | .incomplete => 0
    | _ => countFrames 0 bs

/-- The bytes of the valid frames among bytes received, as `countFrames` counts them. -/
def keepFrames : Nat → List Byte → List Byte
  | _, [] => []
  | skip + 1, b :: bs => b :: keepFrames skip bs
  | 0, b :: bs =>
    match frontOf (b :: bs) with
    | .valid size => b :: keepFrames (size - 1) bs
    | .incomplete => []
    | _ => keepFrames 0 bs

/-- What the receiver keeps when its link goes DOWN: every complete frame, but no incomplete one (R187, log 8). -/
def completeFrames (bs : List Byte) : List Byte := keepFrames 0 bs

/-! ### Kinds and codes -/

/-- The kind values of R188; an unknown kind is its own value. -/
def RequestKind.value : RequestKind → Nat
  | .hello => 1 | .status => 2 | .query => 3
  | .register => 16 | .edit => 17 | .retire => 18 | .quarantineSet => 19 | .quarantineClear => 20 | .recall => 21
  | .waiveMark => 22 | .hallHold => 23 | .hallRelease => 24 | .clearFault => 25 | .clearBreach => 26
  | .configBegin => 27 | .configWrite => 28 | .configEnd => 29 | .restart => 30 | .erase => 31
  | .selectStation => 32 | .claim => 33 | .nextMark => 34 | .marked => 35 | .markFailed => 36 | .cutDone => 37
  | .return_ => 38 | .release => 39 | .contourDone => 40 | .parked => 41 | .yield => 42 | .refuse => 43
  | .consumablesChanged => 44
  | .move => 48 | .skeleton => 49 | .travel => 50 | .at_ => 51 | .picked => 52 | .landed => 53 | .halt => 54
  | .resume => 55 | .redirect => 56 | .abandon => 57
  | .unknown code => code

/-- The kind values of R192. -/
def Notice.kindValue : Notice → Nat
  | .start .. => 128
  | .retired .. => 129
  | .incomplete .. => 130
  | .recallEnd .. => 131
  | .markFailed .. => 132
  | .nestDone _ => 133
  | .consumable .. => 134
  | .orderEnd _ => 135
  | .quiesceTimeout .. => 136
  | .fault .. => 137
  | .faultCleared .. => 138
  | .forced .. => 139
  | .degraded .. => 140
  | .estop _ => 141
  | .estopClear => 142
  | .breach .. => 143
  | .breachCleared _ => 144
  | .holdComplete _ => 145
  | .recall .. => 146
  | .stopContour .. => 147
  | .park _ => 148
  | .resume _ => 149
  | .markWaived .. => 150
  | .orderGranted _ => 151
  | .orderHalted .. => 152

/-- The status values of R188, 0 to 42. -/
def Status.value : Status → Nat
  | .ok => 0 | .accepted => 1 | .queued => 2 | .heldByYou => 3 | .done => 4 | .kept => 5 | .none_ => 6
  | .role => 7 | .link => 8 | .state => 9 | .format => 10 | .range => 11 | .stale => 12 | .full => 13 | .limit => 14
  | .tagInUse => 15 | .notHere => 16 | .shared => 17 | .notTop => 18 | .held => 19 | .booked => 20 | .busy => 21
  | .quarantined => 22 | .skeleton => 23
  | .noRoom => 24 | .badPlace => 25 | .overload => 26 | .overrun => 27 | .duplicate => 28 | .unmarked => 29
  | .quiesced => 30 | .estop => 31 | .arcOn => 32
  | .inTransit => 33 | .inUse => 34 | .craneOver => 35 | .cause => 36 | .loaded => 37 | .hookLoaded => 38
  | .blocked => 39 | .noAnswer => 40 | .late => 41 | .gone => 42

/-- Codes 0 to 6 report a request taken (R188). -/
def Status.taken (c : Status) : Bool := c.value ≤ 6

/-! ### Central bodies (R193) -/

/-- Texts occupy fixed fields, left-aligned and padded with zero bytes. -/
def textBytes (size : Nat) (t : Text) : List Byte :=
  (t.map fun ch => BitVec.ofNat 8 ch.toNat) ++ List.replicate (size - t.length) 0#8

def handleBytes (h : Handle) : List Byte := littleEndian 2 h.index ++ littleEndian 1 h.gen

/-- An absent handle has index FFFF hex; its generation byte says which mark stands in a NEST DONE. DESIGN CHOICE (log 36): the
generation byte of an absent parent is 0. -/
def noHandle (mark : Nat) : List Byte := littleEndian 2 0xFFFF ++ littleEndian 1 mark

def optHandleBytes : Option Handle → List Byte
  | some h => handleBytes h
  | none => noHandle 0

/-- Type, number, and level, station or hook position. DESIGN CHOICE (log 36): a byte without meaning for the type (number and
position of INFEED and SCRAP, level of a destination stack, position of a HOOK place) is 0. -/
def placeBytes (type number position : Nat) : List Byte := [type, number, position].map (BitVec.ofNat 8)

def Place.bytes : Place → List Byte
  | .infeed => placeBytes 0 0 0
  | .stack n => placeBytes 1 n 0
  | .station b st => placeBytes 2 b.number st.code
  | .hook c => placeBytes 3 c.number 0
  | .scrap => placeBytes 4 0 0

def RecordPlace.bytes : RecordPlace → List Byte
  | .infeed => placeBytes 0 0 0
  | .stack n level => placeBytes 1 n level
  | .station b st => placeBytes 2 b.number st.code
  | .hook c position => placeBytes 3 c.number position

def custodyBytes : Custody → List Byte
  | .rest => [0#8, 0#8]
  | .carried c => [1#8, BitVec.ofNat 8 c.number]
  | .orphaned c => [2#8, BitVec.ofNat 8 c.number]
  | .claimed b => [3#8, BitVec.ofNat 8 b.number]
  | .worked b => [4#8, BitVec.ofNat 8 b.number]

/-- Crane and tag, 0 and 0 if absent. -/
def optRefBytes : Option OrderRef → List Byte
  | some r => [BitVec.ofNat 8 r.crane.number, BitVec.ofNat 8 r.tag]
  | none => [0#8, 0#8]

def bitOf (b : Bool) (weight : Nat) : Nat := if b then weight else 0

/-- The stock record body. -/
def RecordView.bytes (v : RecordView) : List Byte :=
  handleBytes v.handle ++
  [if v.record.kind = .plate then 0#8 else 1#8, BitVec.ofNat 8 v.record.grade] ++
  textBytes 12 v.record.heat ++
  littleEndian 2 v.record.length ++ littleEndian 2 v.record.width ++ littleEndian 1 v.record.thickness ++
  littleEndian 4 v.record.mass ++
  optHandleBytes v.record.parent ++
  ((v.place.map RecordPlace.bytes).getD (placeBytes 0 0 0)) ++
  custodyBytes v.record.custody ++
  optRefBytes v.record.booking ++ optRefBytes v.record.waitSlot ++
  littleEndian 1 (bitOf v.record.quarantine 1 + bitOf v.record.incomplete 2)

/-- The mark record. -/
def MarkRecord.bytes (m : MarkRecord) : List Byte :=
  littleEndian 1 m.part ++ textBytes 16 m.mark ++ littleEndian 1 m.attempt ++ textBytes 12 m.heat ++
    textBytes 8 m.gradeName ++ handleBytes m.plate ++ textBytes 16 m.nestName

def MarkState.value : MarkState → Nat
  | .pending => 0
  | .issued => 1
  | .marked => 2
  | .failed => 3
  | .waived => 4
  | .noMark => 5

def RectResult.bytes : RectResult → List Byte
  | .remnant h => handleBytes h
  | .undersize => noHandle 1
  | .dropped => noHandle 2

/-- The NEST DONE body. -/
def NestDone.bytes (d : NestDone) : List Byte :=
  handleBytes d.plate ++ textBytes 12 d.heat ++ textBytes 8 d.gradeName ++ textBytes 16 d.nestName ++
  littleEndian 1 d.bed.number ++ littleEndian 1 d.station.code ++
  littleEndian 1 d.parts.length ++ d.parts.map (fun p => BitVec.ofNat 8 (p.1.value + bitOf p.2 128)) ++
  littleEndian 1 d.rects.length ++ d.rects.flatMap RectResult.bytes ++
  littleEndian 4 d.areaPlate ++ littleEndian 4 d.areaCut ++ littleEndian 4 d.areaRemnants ++ littleEndian 4 d.areaScrap ++
  littleEndian 2 d.yield ++ littleEndian 4 d.skeletonMass ++
  littleEndian 2 d.pierces ++ littleEndian 4 d.arcTime ++ littleEndian 2 d.bedPierces ++ littleEndian 4 d.bedCutTime

def StageEntered.value : StageEntered → Nat
  | .pickup => 2
  | .carry => 3
  | .halted => 4

def Interval.bytes (a : Interval) : List Byte := littleEndian 4 a.lo ++ littleEndian 4 a.hi

/-- The ORDER GRANTED body; a TRAVEL names no place, and its place field is written as an INFEED place (log 27). -/
def OrderGranted.bytes (g : OrderGranted) : List Byte :=
  littleEndian 1 g.tag ++ littleEndian 1 g.stage.value ++ g.span.bytes ++ g.corridor.bytes ++
  ((g.dest.map Place.bytes).getD (placeBytes 0 0 0)) ++ littleEndian 4 g.destX ++
  littleEndian 1 (bitOf g.held.one 1 + bitOf g.held.two 2) ++ littleEndian 4 g.load

/-! ### The frames sent -/

/-- The bytes of the bodies the manual lays out (R193); none of any other. DEDUCED (log 36): the answer to a QUERY of an OCCUPIED
slot is the stock record body, whose handle carries the slot's generation. -/
def AnswerBody.bytes : AnswerBody → Option (List Byte)
  | .empty => some []
  | .slot true _ (some v) => some v.bytes
  | .mark m => some m.bytes
  | _ => none

def Notice.bodyBytes : Notice → Option (List Byte)
  | .nestDone d => some d.bytes
  | .orderGranted g => some g.bytes
  | .estopClear => some []
  | _ => none

/-- Bodies whose layout the manual does not give: free values (log 36). -/
opaque unstatedAnswer : AnswerBody → List Byte

opaque unstatedNotice : Notice → List Byte

/-- The answer frame: the request's kind and tag, and the status code (R186, R188). -/
def Answer.frame (a : Answer) : List Byte :=
  frameBytes a.kind.value a.tag a.status.value (a.body.bytes.getD (unstatedAnswer a.body))

/-- The tag of every notice (R186). -/
def noticeTag : Nat := 0

/-- The notice frame: tag 0, and the gap count as its status (R186, R191). -/
def SentNotice.frame (n : SentNotice) : List Byte :=
  frameBytes n.notice.kindValue noticeTag n.gap (n.notice.bodyBytes.getD (unstatedNotice n.notice))

/-- The frames the last command put on a link's line, the answer ahead of a notice (R188). -/
def State.framesOut (s : State) (l : Link) : List (List Byte) :=
  ((s.txAnswer.filter fun a => a.link = l).map Answer.frame).toList ++
    ((s.txNotice.filter fun n => n.link = l).map SentNotice.frame).toList

/-! ### The CLAIM body -/

/-- The text in a padded field: its bytes up to the first zero. DESIGN CHOICE (log 36): bytes behind the first zero, of
which R193 says nothing, are ignored. -/
def textOfBytes (bs : List Byte) : Text := (bs.takeWhile (· ≠ 0#8)).map fun b => Char.ofNat b.toNat

def handleOfBytes (bs : List Byte) : Handle := ⟨valueOf (bs.take 2), valueOf ((bs.drop 2).take 1)⟩

/-- The mark mode byte of a CLAIM entry. -/
def markModeOf : Nat → MarkModeArg
  | 0 => .mark
  | 1 => .noMark
  | _ => .other

def partOfBytes (bs : List Byte) : PartArg :=
  { mark := textOfBytes (bs.take 16), area := valueOf ((bs.drop 16).take 4), mode := markModeOf (valueOf ((bs.drop 20).take 1)) }

/-- n part entries of 21 bytes each. -/
def partsOfBytes : Nat → List Byte → List PartArg
  | 0, _ => []
  | n + 1, bs => partOfBytes (bs.take 21) :: partsOfBytes n (bs.drop 21)

/-- The CLAIM body: 21 + 21 × n bytes; none for any other length. -/
def claimOfBytes (bs : List Byte) : Option (Handle × NestArg) :=
  if bs.length < 21 ∨ bs.length % 21 ≠ 0 then none
  else
    let n := bs.length / 21 - 1
    some (handleOfBytes bs,
      { name := textOfBytes ((bs.drop 3).take 16)
        count := valueOf ((bs.drop 19).take 1)
        parts := partsOfBytes n (bs.drop 20)
        countAgain := valueOf ((bs.drop (20 + 21 * n)).take 1) })

end Sys2Proof.Machine
end

