-- ==== Sys2Proof/Machine/Links.lean ====
section
/-! DEFINITION. The link interface: the checks every valid request passes (R188), answers, link state and its effects by role
(R189, R190), notices leaving their queues (R191), and STATUS (R199). -/

namespace Sys2Proof.Machine

open Sys2Proof

/-! ### What every request and every event goes through -/

/-- The output registers between commands: nothing sent by this command yet (log 9). -/
def State.quiet (s : State) : State := { s with txAnswer := none, txNotice := none }

/-- A valid frame restarts the link's silence count and is taken as one request; the receiver hunts on behind it (R187, log 8). -/
def State.receive (s : State) (l : Link) : State :=
  s.quiet.modLink l fun q => { q with lastFrame := some s.hallTime, received := afterFrame q.received }

/-- R188 and the table of kinds: which links may send a kind. -/
def RequestKind.allowedOn (k : RequestKind) (l : Link) : Bool :=
  if k.value ≤ 3 then true
  else
    match l with
    | .office => k.value ≤ 31
    | .bed _ => within 32 44 k.value
    | .crane _ => within 48 57 k.value

def RequestKind.isUnknown : RequestKind → Bool
  | .unknown _ => true
  | _ => false

/-- Check 5 of R188. -/
def RequestKind.takenIn (k : RequestKind) (p : PartState) : Bool :=
  match p with
  | .config =>
    match k with
    | .hello | .status | .query | .configBegin | .configWrite | .configEnd | .erase => true
    | _ => false
  | .run =>
    match k with
    | .configWrite | .configEnd | .erase => false
    | _ => true

/-- The checks of R188 in order, and the FORMAT check with which every owning block begins. DEDUCED (log 34): R188 puts the part
state before the owning block's checks, and so before FORMAT, also where that block's rule (R117) lists FORMAT first. -/
def State.linkCheck (s : State) (r : Req) (k : RequestKind) : Option Status :=
  if k.isUnknown then some .format
  else if !k.allowedOn r.link then some .role
  else if !(s.linkUp r.link || k = .hello) then some .link
  else if r.status ≠ 0 then some .format
  else if !k.takenIn s.part then some .state
  else if !r.fits then some .format
  else none

/-- The one answer frame of a request, with its kind and tag (R188). -/
def State.answer (s : State) (r : Req) (k : RequestKind) (code : Status) (body : AnswerBody) : State :=
  { s with txAnswer := some { link := r.link, kind := k, tag := r.tag, status := code, body := body } }

/-- A request: received, checked, and, when the checks pass, taken by the block that owns it. -/
def takeRequest (r : Req) (k : RequestKind) (s : State) (owner : State → Reply) : Host.Outcome State Fault Refusal :=
  match (s.receive r.link).linkCheck r k with
  | some code => .next ((s.receive r.link).answer r k code .empty)
  | none =>
    let taken := owner (s.receive r.link)
    .next (taken.1.answer r k taken.2.1 taken.2.2)

/-- An event that is no request: it has its effect when its condition holds (log 2). -/
def takeEvent (s : State) (holds : State → Bool) (effect : State → State) : Host.Outcome State Fault Refusal :=
  .next (if holds s.quiet then effect s.quiet else s.quiet)

/-! ### HELLO and silence -/

/-- The mask byte of R189: bit 0 stock, 1 nest, 2 consumable, 3 crane, 4 fault. DESIGN CHOICE (log 35): bits 5 to 7, which the
rule does not name, are ignored. -/
def maskOf (v : Nat) : ClassMask :=
  { stock := v.testBit 0, nest := v.testBit 1, consumable := v.testBit 2, crane := v.testBit 3, fault := v.testBit 4 }

/-- The UP effects of a role (R189, R114, R172). -/
def State.upEffects (s : State) (l : Link) : State :=
  match l with
  | .office => s
  | .bed b =>
    if (s.quiesce.get b).state = .running then s.evalPermit b
    else (s.evalPermit b).notify (.bed b) (.park (s.quiesce.get b).session)
  | .crane c =>
    (s.forOrders (fun o => o.crane = c && o.causes.link) fun s e => s.removeCause e .link).evalMotion c

def State.setMask (s : State) (l : Link) (mask : Nat) : State :=
  match l with
  | .office => { s with mask := maskOf mask }
  | _ => s

/-- What HELLO answers (R189). -/
def State.helloBody (s : State) (l : Link) : AnswerBody := .hello (s.part = .run) s.hallTime (s.links.get l).queue.length

/-- The owning block's part of HELLO; the notices of a link that goes UP begin to go out behind the answer (R191). -/
def takeHello (l : Link) (role mask : Nat) (s : State) : Reply :=
  if role ≠ roleOf l then s.reply .role
  else
    let masked := s.setMask l mask
    let s' :=
      if s.linkUp l then masked
      else ((masked.modLink l fun q => { q with up := true }).upEffects l).modLink l (·.transmit)
    (s', .ok, s'.helloBody l)

def execHello (r : Req) (role mask : Nat) (s : State) : Host.Outcome State Fault Refusal :=
  takeRequest r .hello s (takeHello r.link role mask)

/-- R190: the hall time since the last valid frame of an UP link exceeds the silence limit. DESIGN CHOICE (log 35): a silence that
runs at a commit of another limit is compared with the new limit as a whole. -/
def State.silent (s : State) (l : Link) : Bool :=
  s.linkUp l && (s.links.get l).lastFrame.any fun t => s.committed.silenceLimit < (s.hallTime - t).toNat

/-- Whether a DOWN link gives an order cause LINK: PICKUP or CARRY, or such a return stage of a REDIRECT's wait (R163, R172). -/
def Order.takesLink (o : Order) (c : Crane) : Bool :=
  o.crane = c &&
    (o.stage = .pickup || o.stage = .carry || (o.stage = .reserving && o.redirect.any fun r => !r.haltedReturn))

/-- The recall outstanding on the record a bed has claimed. -/
def State.endBedRecall (s : State) (b : Bed) (outcome : RecallOutcome) : State :=
  match s.claims.get b with
  | some n => s.endRecall n.plate outcome
  | none => s

/-- R114: what a bed's session becomes when the link goes DOWN. -/
def State.degrade (s : State) (b : Bed) : State × List Task :=
  match (s.quiesce.get b).state with
  | .stopping =>
    (s.setQuiesce b fun q =>
      { q with state := .parking, allowance := false, parked := false, degraded := true, timer := some freshTimer },
      if s.arcOn b then [] else [.quiesced b])
  | .parking => (s.modQuiesce b fun q => { q with degraded := true }, if s.arcOn b then [] else [.quiesced b])
  | _ => (s, [])

/-- The effects of DOWN by role (R190). DESIGN CHOICE (log 33): a bed's recall ends before its session is degraded, so that RECALL
END goes before DEGRADED. -/
def State.downEffects (s : State) (l : Link) : State :=
  match l with
  | .office => s
  | .bed b => settled (((s.evalPermit b).endBedRecall b .noAnswer).degrade b)
  | .crane c => (s.forOrders (·.takesLink c) fun s e => s.addOutside e .link).evalMotion c

/-- R190; a frame still incomplete is discarded (R187). -/
def execSilenceExpiry (l : Link) (s : State) : Host.Outcome State Fault Refusal :=
  takeEvent s (·.silent l) fun s =>
    (s.modLink l fun q => { q with up := false, received := completeFrames q.received }).downEffects l

/-! ### Frames, notices, unknown kinds -/

/-- R187: the bytes that arrived join those waiting, and what cannot be a frame goes. Bytes that complete a valid frame restart
the silence count at once, also behind a frame that still waits at the front for its request command (log 8). -/
def LinkState.hear (q : LinkState) (now : Time) (bytes : List Byte) : LinkState :=
  let rest := hunt (q.received ++ bytes)
  { q with
    lastFrame := if countFrames 0 q.received < countFrames 0 rest then some now else q.lastFrame
    received := rest }

def execFrameDiscarded (l : Link) (bytes : List Byte) (s : State) : Host.Outcome State Fault Refusal :=
  takeEvent s (fun _ => true) fun s => s.modLink l (·.hear s.hallTime bytes)

/-- R191: the last byte of the notice under transmission is sent; it leaves its queue with the gap count it began with, and the
next one begins. -/
def State.sendNotice (s : State) (l : Link) : State :=
  match (s.links.get l).queue, (s.links.get l).sending with
  | n :: rest, some gap =>
    { (s.modLink l fun q => { q with queue := rest, sending := none }.transmit) with
      txNotice := some { link := l, gap := gap, notice := n } }
  | _, _ => s

def execNoticeSent (l : Link) (s : State) : Host.Outcome State Fault Refusal :=
  takeEvent s (·.linkUp l) (·.sendNotice l)

def execUnknownRequestKind (r : Req) (kind : Nat) (s : State) : Host.Outcome State Fault Refusal :=
  takeRequest r (.unknown kind) s fun s => s.reply .format

/-! ### STATUS -/

def State.statusView (s : State) : StatusView where
  run := s.part = .run
  time := s.hallTime
  links := ⟨s.links.office.up, ⟨s.links.bed.one.up, s.links.bed.two.up⟩, ⟨s.links.crane.one.up, s.links.crane.two.up⟩⟩
  quiesce := ⟨s.quiesce.one.state, s.quiesce.two.state⟩
  permit := s.permit
  hallHold := s.hold.isSome
  eStop := s.eStop
  span := ⟨s.runway.one.span.map (·.kind), s.runway.two.span.map (·.kind)⟩
  breach := ⟨s.runway.one.breach.isSome, s.runway.two.breach.isSome⟩
  motion := s.motion
  freeEntries := (sharedNumbers.filter fun e => (s.entry e).isNone).length
  periods := s.committed.periods
  freeSlots := s.freeSlots.length

def execStatus (r : Req) (s : State) : Host.Outcome State Fault Refusal :=
  takeRequest r .status s fun s => (s, .ok, .status s.statusView)

end Sys2Proof.Machine
end

