-- ==== Sys2Proof/Machine/Queries.lean ====
section
/-! DEFINITION. The six queries (R15, R41, R46, R70, R104, R123, R152, R174, R185). Each answers views of the state and
changes nothing. -/

namespace Sys2Proof.Machine

open Sys2Proof

/-! ### Records -/

def State.recordView (s : State) (i : Nat) : Option RecordView :=
  (s.slot i).content.map fun r => { handle := ⟨i, (s.slot i).gen⟩, record := r, place := s.placeOf ⟨i, (s.slot i).gen⟩ }

def State.slotBody (s : State) (i : Nat) (withRecord : Bool) : AnswerBody :=
  .slot (s.slot i).content.isSome (s.slot i).gen (if withRecord then s.recordView i else none)

/-- R15, R2. -/
def takeQueryRecord (index : Nat) (gen : Option Nat) (s : State) : Reply :=
  if !(index < Config.slotCount && gen.all (· ≤ Config.maxGen)) then s.reply .range
  else
    match gen with
    | none => (s, .ok, s.slotBody index true)
    | some g =>
      if (s.recordOf ⟨index, g⟩).isSome then (s, .ok, s.slotBody index true) else (s, .stale, s.slotBody index false)

/-- R15; an object byte that names no object is RANGE (R188, log 23). -/
def takeRecordQuery (q : RecordQuery) (gen : Option Nat) (s : State) : Reply :=
  match q with
  | .record index => takeQueryRecord index gen s
  | .otherObject _ => s.reply .range

def execQueryRecord (r : Req) (query : RecordQuery) (gen : Option Nat) (s : State) : Host.Outcome State Fault Refusal :=
  takeRequest r .query s (takeRecordQuery query gen)

/-! ### Places -/

def State.stackView (s : State) (n : Nat) : StackView where
  config := s.committed.stack n
  inUse := s.committed.inUse n
  records := (s.pile n).map fun h => (h, s.thicknessOf h)
  thickness := s.thickness (s.pile n)
  inboundCount := (s.inboundAt (.stack n) none).1
  inboundThickness := (s.inboundAt (.stack n) none).2

/-- R41. -/
def takeQueryStack (n : Nat) (s : State) : Reply :=
  if n < Config.stackCount then (s, .ok, .stack (s.stackView n)) else s.reply .range

def execQueryStack (r : Req) (stack : Nat) (s : State) : Host.Outcome State Fault Refusal :=
  takeRequest r .query s (takeQueryStack stack)

def State.stationView (s : State) (b : Bed) (st : Station) : StationView where
  centre := (s.committed.stationCentres.get b).get st
  records := (s.station b st).records
  inboundCount := (s.inboundAt (.station b st) none).1
  skeleton := (s.station b st).skeleton
  skeletonMass := (s.station b st).skeletonMass
  closedByClaim := s.anyClaimed (s.station b st).records

/-- R41; numbers outside bed 1, 2 or station A, B: log 23. -/
def takeQueryStation (bed st : Nat) (s : State) : Reply :=
  match bedOf bed, stationOf st with
  | some b, some st => (s, .ok, .station (s.stationView b st))
  | _, _ => s.reply .range

def execQueryStation (r : Req) (bed st : Nat) (s : State) : Host.Outcome State Fault Refusal :=
  takeRequest r .query s (takeQueryStation bed st)

/-! ### Orders -/

/-- The timeout class of a stage (R180). -/
def Stage.cls : Stage → Option TimeoutClass
  | .queued => none
  | .reserving => some .wait
  | .pickup => some .travel
  | .carry => some .travel
  | .halted => none

def QuiesceState.cls : QuiesceState → Option TimeoutClass
  | .running => none
  | .stopping => some .answer
  | .parking => some .answer
  | .quiesced => none

def OrderKind.entryKind : OrderKind → EntryKind
  | .move => .move
  | .skeleton => .skeleton
  | .travel => .travel

/-- The class's next tick, for a timed entry (R185). -/
def State.tickOf (s : State) (cls : Option TimeoutClass) : Option Time := cls.map s.nextTick.get

/-- The held beds of an order, each with its grant received or awaited (09, order body). -/
def State.heldView (s : State) (o : Order) : PerBed (Option Bool) :=
  let one (b : Bed) := if s.holdsBed o b then some (decide ((s.quiesce.get b).state = .quiesced)) else none
  ⟨one .one, one .two⟩

/-- How the order holds a record (09 order body). -/
def State.recordHold (s : State) (o : Order) (h : Handle) : Option RecordHold :=
  (s.recordOf h).bind fun r =>
    if r.booking = some o.ref then some .booked else if r.waitSlot = some o.ref then some .awaited else none

/-- The order's records, each booked or waited for. -/
def State.recordsView (s : State) (o : Order) : List (Handle × Option RecordHold) :=
  o.records.map fun h => (h, s.recordHold o h)

def State.orderView (s : State) (e : Nat) (o : Order) : OrderView where
  entry := e
  link := .crane o.crane
  tag := o.tag
  kind := o.kind.entryKind
  stage := .order o.stage
  cls := o.stage.cls
  age := o.timer.map (·.age)
  nextTick := s.tickOf o.stage.cls
  body := .order o (s.recordsView o) (s.heldView o)

def State.recallView (s : State) (e : Nat) (r : Recall) : OrderView where
  entry := e
  link := .office
  tag := r.tag
  kind := .recall
  stage := .outstanding
  cls := some .answer
  age := some r.timer.age
  nextTick := s.tickOf (some .answer)
  body := .recall r.handle r.bed

def State.holdView (s : State) (e tag : Nat) : OrderView where
  entry := e
  link := .office
  tag := tag
  kind := .hold
  stage := .held
  cls := none
  age := none
  nextTick := none
  body := .hold ⟨s.hallGranted .one, s.hallGranted .two⟩

/-- The reserved entry of a bed while its session is open (R105, R175). -/
def State.quiesceView (s : State) (b : Bed) : OrderView where
  entry := entryOfBed b
  link := .bed b
  tag := (s.quiesce.get b).session
  kind := .quiesce
  stage := .quiesce (s.quiesce.get b).state
  cls := (s.quiesce.get b).state.cls
  age := (s.quiesce.get b).timer.map (·.age)
  nextTick := s.tickOf (s.quiesce.get b).state.cls
  body := .quiesce b

/-- The entry live on a link under a tag (R185). -/
def State.liveEntry (s : State) (l : Link) (tag : Nat) : Option OrderView :=
  match l with
  | .crane c => (s.findOrder ⟨c, tag⟩).map fun q => s.orderView q.1 q.2
  | .office =>
    match s.recalls.find? fun q => q.2.tag = tag with
    | some (e, r) => some (s.recallView e r)
    | none =>
      match s.hold with
      | some (e, t) => if t = tag then some (s.holdView e t) else none
      | none => none
  | .bed b =>
    if (s.quiesce.get b).state ≠ .running ∧ (s.quiesce.get b).session = tag then some (s.quiesceView b) else none

/-- R185; a link number outside 1 to 5: log 23. -/
def takeQueryOrder (link tag : Nat) (s : State) : Reply :=
  match linkOf link with
  | some l =>
    match s.liveEntry l tag with
    | some v => (s, .ok, .order v)
    | none => s.reply .state
  | none => s.reply .range

def execQueryOrder (r : Req) (link tag : Nat) (s : State) : Host.Outcome State Fault Refusal :=
  takeRequest r .query s (takeQueryOrder link tag)

/-! ### Cranes and beds -/

/-- R152, R174: the crane's orders, the active one first. -/
def State.craneView (s : State) (c : Crane) : CraneView where
  lastX := (s.runway.get c).lastX
  span := (s.runway.get c).span
  request := (s.runway.get c).request.map fun q => (q.tag, q.sweep.span)
  breach := (s.runway.get c).breach
  motion := s.motion.get c
  unmet := motionConditions.filter fun k => !s.motionMet c k
  hook := (s.hook c).map fun h => (h, s.massOf h)
  load := s.hookLoad c
  params := s.params c
  orders := ((s.activeOrder c).toList ++ (s.queuedOrder c).toList).map fun q => s.orderView q.1 q.2

def takeQueryCrane (crane : Nat) (s : State) : Reply :=
  match craneOf crane with
  | some c => (s, .ok, .crane (s.craneView c))
  | none => s.reply .range

def execQueryCrane (r : Req) (crane : Nat) (s : State) : Host.Outcome State Fault Refusal :=
  takeRequest r .query s (takeQueryCrane crane)

/-- The age of a bed's quiesce entry: none while free, no number while untimed (R123). -/
def State.entryAge (s : State) (b : Bed) : Option (Option Nat) :=
  if (s.quiesce.get b).state = .running then none else some ((s.quiesce.get b).timer.map (·.age))

/-- R46, R104. DESIGN CHOICE (log 27): the BEACON's present level is the level the line is driven to, high or low; with the
polarity beside it, it says whether the line is active (R101). -/
def State.bedView (s : State) (b : Bed) : BedView where
  station := s.active.get b
  claimed := (s.claims.get b).map fun n => (n.plate, s.custodyOf n.plate)
  recallTag := (s.claims.get b).bind fun n => (s.recallOf n.plate).map (·.2.tag)
  nest := s.claims.get b
  time := s.hallTime
  rise := (s.arcs.get b).rise
  consumable := s.consumables.get b
  settings := s.committed.consumables.get b
  fault := (s.arcs.get b).fault
  beacon := s.committed.beacons.get b
  beaconHigh := s.beaconHigh b
  quiesce := (s.quiesce.get b).state
  session := (s.quiesce.get b).session
  holders := (s.quiesce.get b).holders
  allowance := (s.quiesce.get b).allowance
  parked := (s.quiesce.get b).parked
  degraded := (s.quiesce.get b).degraded
  entryAge := s.entryAge b
  permit := s.permit.get b
  unmet := permitConditions.filter fun k => !s.permitMet b k

/-- R46; a bed number other than 1 or 2: log 23. -/
def takeQueryBed (bed : Nat) (s : State) : Reply :=
  match bedOf bed with
  | some b => (s, .ok, .bed (s.bedView b))
  | none => s.reply .range

def execQueryBed (r : Req) (bed : Nat) (s : State) : Host.Outcome State Fault Refusal :=
  takeRequest r .query s (takeQueryBed bed)

end Sys2Proof.Machine
end

