-- ==== Sys2Proof/Machine/Claims.lean ====
section
/-! DEFINITION. What the bed, office and arc commands share: parts of a nest, a claimed record becoming WORKED (R50), the end
of a claim (R54, R112), and the freeing of a record with its waiting order (R4). -/

namespace Sys2Proof.Machine

open Sys2Proof

/-! ### Parts -/

/-- Part p of a nest, numbered from 1 (R66). -/
def Nest.part (n : Nest) (p : Nat) : Option Part := if p = 0 then none else n.parts[p - 1]?

def Nest.setPart (n : Nest) (p : Nat) (v : Part) : Nest := { n with parts := n.parts.set (p - 1) v }

def State.setPart (s : State) (b : Bed) (n : Nest) (p : Nat) (v : Part) : State := s.setClaim b (some (n.setPart p v))

/-! ### WORKED and the end of a claim -/

/-- R50: a record still CLAIMED becomes WORKED, and a recall outstanding on it ends KEPT (R63). -/
def State.workClaim (s : State) (b : Bed) : State :=
  match s.claims.get b with
  | some n =>
    if s.custodyOf n.plate = some (.claimed b) then (s.setCustody n.plate (.worked b)).endRecall n.plate .kept else s
  | none => s

/-- R54: the quiesce controller learns of a claim's end; in STOPPING it is a CONTOUR DONE (R112). -/
def State.claimLeft (s : State) (b : Bed) : State :=
  if (s.quiesce.get b).state = .stopping then
    (s.setQuiesce b fun q =>
        { q with state := .parking, allowance := false, parked := false, timer := some freshTimer }).notify (.bed b)
      (.park (s.quiesce.get b).session)
  else s.evalPermit b

/-- R54, in its order: claim and nest record, permit and quiesce, wait slot, recall. -/
def State.endClaim (s : State) (b : Bed) (plate : Handle) (outcome : RecallOutcome) : State :=
  (((s.setClaim b none).claimLeft b).settle [.serve plate]).endRecall plate outcome

/-! ### Freeing -/

/-- R4: the slot is freed and its record leaves its list. -/
def State.free (s : State) (h : Handle) : State := (s.freeRecord h).evalPermits

/-- The end of the order in a record's wait slot when the record is freed (R4, R59). -/
def State.waiterTasks (s : State) (h : Handle) : List Task :=
  match (s.recordOf h).bind (·.waitSlot) with
  | some ref =>
    match s.findOrder ref with
    | some (e, _) => [.endOrder e .refusedGone none]
    | none => []
  | none => []

/-- The number of parts of a nest that satisfy p. -/
def Nest.countParts (n : Nest) (p : Part → Bool) : Nat := (n.parts.filter p).length

/-- R53: a WORKED record is given back incomplete and quarantined with its INCOMPLETE notice, a CLAIMED one as it was. -/
def State.giveBack (s : State) (b : Bed) (n : Nest) (r : Record) : State :=
  if r.custody = .worked b then
    (s.modRecord n.plate fun r => { r with custody := .rest, incomplete := true, quarantine := true }).notify .office
      (.incomplete n.plate r.heat b (n.countParts fun p => p.state = .marked) (n.countParts (·.cut)) n.pierces n.arcTime)
  else s.setCustody n.plate .rest

end Sys2Proof.Machine
end

