-- ==== Sys2Proof/Machine/Office.lean ====
section
/-! DEFINITION. The office's requests on records (R11 to R14), recalls (R61), marks (R76), the hall hold (R117 to R119), faults
(R99), breaches (R147) and RESTART (R198). -/

namespace Sys2Proof.Machine

open Sys2Proof

/-! ### Records -/

/-- R11. -/
def takeRegister (grade : Nat) (heat : Text) (length width thickness : Nat) (s : State) : Reply :=
  if !s.contentsOk (some grade) (some heat) (some length) (some width) (some thickness) then s.reply .range
  else if Config.infeedRoom ≤ s.infeed.length then s.reply .noRoom
  else
    match s.lowestFree with
    | none => s.reply .full
    | some i =>
      let mass := s.massFor grade length width thickness
      let record : Record :=
        { kind := .plate, grade := grade, heat := heat, length := length, width := width, thickness := thickness,
          mass := mass, parent := none, custody := .rest, booking := none, waitSlot := none, quarantine := false,
          incomplete := false }
      ((s.occupy i record).setListAt .infeed (s.infeed ++ [s.nextHandle i]), .ok, .registered (s.nextHandle i) mass)

def execRegister (r : Req) (grade : Nat) (heat : Text) (length width thickness : Nat) (s : State) :
    Host.Outcome State Fault Refusal :=
  takeRequest r .register s (takeRegister grade heat length width thickness)

/-- The record after an EDIT: given fields replaced, mass recomputed (R12, R6). -/
def State.edited (s : State) (r : Record) (f : EditArg) : Record :=
  let grade := f.grade.getD r.grade
  let length := f.length.getD r.length
  let width := f.width.getD r.width
  let thickness := f.thickness.getD r.thickness
  { r with
    heat := f.heat.getD r.heat, grade := grade, length := length, width := width, thickness := thickness,
    mass := s.massFor grade length width thickness }

/-- Check 5 of R12: the height limit of the stack a record lies in, with its new thickness. -/
def State.editFits (s : State) (h : Handle) (r : Record) (thickness : Option Nat) : Bool :=
  match s.stackOf h, thickness with
  | some n, some t =>
    s.thickness (s.pile n) - r.thickness + t + (s.inboundAt (.stack n) none).2 ≤ (s.committed.stack n).heightLimit
  | _, _ => true

/-- R12. -/
def takeEdit (h : Handle) (f : EditArg) (s : State) : Reply :=
  s.withHandle h fun r =>
    if !s.contentsOk f.grade f.heat f.length f.width f.thickness then s.reply .range
    else if r.custody ≠ .rest ∨ r.booking.isSome then s.reply .held
    else if !s.editFits h r f.thickness then s.reply .noRoom
    else (s.modRecord h fun r => s.edited r f, .ok, .mass (s.edited r f).mass)

def execEdit (r : Req) (h : Handle) (fields : EditArg) (s : State) : Host.Outcome State Fault Refusal :=
  takeRequest r .edit s (takeEdit h fields)

def retireCauseOf : RetireArg → Option RetireCause
  | .shipped => some .shipped
  | .scrapped => some .scrapped
  | .other => none

/-- R13, R4. -/
def takeRetire (h : Handle) (cause : RetireArg) (s : State) : Reply :=
  s.withHandle h fun r =>
    match retireCauseOf cause with
    | none => s.reply .range
    | some k =>
      if r.custody ≠ .rest ∨ r.booking.isSome then s.reply .held
      else ((s.free h).settle (s.waiterTasks h), .ok, .retired k)

def execRetire (r : Req) (h : Handle) (cause : RetireArg) (s : State) : Host.Outcome State Fault Refusal :=
  takeRequest r .retire s (takeRetire h cause)

/-- R14. -/
def takeQuarantine (v : Bool) (h : Handle) (s : State) : Reply :=
  s.withHandle h fun _ => (s.modRecord h fun r => { r with quarantine := v }).reply .ok

def execQuarantineSet (r : Req) (h : Handle) (s : State) : Host.Outcome State Fault Refusal :=
  takeRequest r .quarantineSet s (takeQuarantine true h)

def execQuarantineClear (r : Req) (h : Handle) (s : State) : Host.Outcome State Fault Refusal :=
  takeRequest r .quarantineClear s (takeQuarantine false h)

/-! ### Requests that ask for an entry -/

/-- R177: the order table's checks. -/
def State.entryCheck (s : State) (tag : Nat) (live : List Nat) (reached : Bool) : Option Status :=
  if !within 1 255 tag then some .range
  else if live.contains tag then some .tagInUse
  else if reached then some .limit
  else if s.freeEntry.isNone then some .full
  else none

/-- R61: what RECALL answers a live record. -/
def State.recallReply (s : State) (tag : Nat) (h : Handle) (r : Record) : Reply :=
  match r.custody with
  | .rest => s.reply .done
  | .carried _ => s.reply .inTransit
  | .orphaned _ => s.reply .inTransit
  | .worked _ => s.reply .kept
  | .claimed b =>
    if (s.recallOf h).isSome then s.reply .busy
    else if !s.linkUp (.bed b) then s.reply .noAnswer
    else
      match s.freeEntry with
      | none => s.reply .full
      | some e =>
        ((s.setEntry e (some (.recall { tag := tag, handle := h, bed := b, timer := freshTimer }))).notify (.bed b)
          (.recall h tag (((s.claims.get b).map (·.name)).getD []))).reply .accepted

/-- R61. -/
def takeRecall (tag : Nat) (h : Handle) (s : State) : Reply :=
  match s.entryCheck tag s.officeTags (2 ≤ s.recalls.length) with
  | some code => s.reply code
  | none => s.withHandle h fun r => s.recallReply tag h r

def execRecall (r : Req) (h : Handle) (s : State) : Host.Outcome State Fault Refusal :=
  takeRequest r .recall s (takeRecall r.tag h)

/-- The bed whose claim a custody names. -/
def Custody.claimBed : Custody → Option Bed
  | .claimed b => some b
  | .worked b => some b
  | _ => none

/-- R76. -/
def takeWaiveMark (h : Handle) (p : Nat) (s : State) : Reply :=
  s.withHandle h fun r =>
    match r.custody.claimBed.bind fun b => (s.claims.get b).map fun n => (b, n) with
    | none => s.reply .state
    | some (b, n) =>
      match n.part p with
      | none => s.reply .range
      | some v =>
        match v.state with
        | .pending | .failed =>
          ((s.setPart b n p { v with state := .waived }).notify (.bed b) (.markWaived p v.mark)).reply .ok
        | .waived => s.reply .ok
        | _ => s.reply .state

def execWaiveMark (r : Req) (h : Handle) (part : Nat) (s : State) : Host.Outcome State Fault Refusal :=
  takeRequest r .waiveMark s (takeWaiveMark h part)

/-! ### Hall hold -/

/-- R117: the hold joins both beds, halts the orders that can be halted, and lowers MOTION ENABLE. DESIGN CHOICE (log 33): bed 1
is joined before bed 2. -/
def State.startHold (s : State) (e tag : Nat) : State :=
  (((s.setEntry e (some (.hold tag))).settle [.join .one .hall, .join .two .hall]).forOrders Order.takesOutside
    fun s e => s.addOutside e .hallHold).evalMotions

/-- R117. -/
def takeHallHold (tag : Nat) (s : State) : Reply :=
  match s.entryCheck tag s.officeTags s.hold.isSome with
  | some code => s.reply code
  | none =>
    match s.freeEntry with
    | some e => (s.startHold e tag).reply .accepted
    | none => s.reply .full

def execHallHold (r : Req) (s : State) : Host.Outcome State Fault Refusal :=
  takeRequest r .hallHold s (takeHallHold r.tag)

/-- R119: the hold leaves both beds, its cause leaves the orders, its entry is freed. -/
def State.endHold (s : State) (e : Nat) : State :=
  (((s.setEntry e none).settle [.leave .one .hall, .leave .two .hall]).forOrders (·.causes.hallHold)
    fun s e => s.removeCause e .hallHold).evalMotions

def takeHallRelease (s : State) : Reply :=
  match s.hold with
  | some (e, _) => (s.endHold e).reply .ok
  | none => s.reply .ok

def execHallRelease (r : Req) (s : State) : Host.Outcome State Fault Refusal :=
  takeRequest r .hallRelease s takeHallRelease

/-! ### Faults and breaches -/

/-- Whether CLEAR FAULT of a bed takes ARC_FAULT from an order: unless the other bed, its latch set, holds the order (R99). -/
def State.losesArcFault (s : State) (b : Bed) (o : Order) : Bool :=
  o.causes.arcFault && !(s.holdsBed o b.other && (s.arcs.get b.other).fault.isSome)

/-- R99, once the latch is known to be set. -/
def State.clearFault (s : State) (b : Bed) : State :=
  let refs := s.refsOf (s.losesArcFault b)
  let freed := (s.modArc b fun a => { a with fault := none }).forOrders (s.losesArcFault b)
    fun s e => s.removeCause e .arcFault
  ((freed.evalMotions.evalPermit b).notify (.bed b) (.faultCleared b refs)).notify .office (.faultCleared b refs)

def takeClearFault (bed : Nat) (s : State) : Reply :=
  match bedOf bed with
  | none => s.reply .range
  | some b =>
    if s.arcOn b then s.reply .arcOn
    else if (s.arcs.get b).fault.isNone then (s, .ok, .orders [])
    else (s.clearFault b, .ok, .orders (s.refsOf (s.losesArcFault b)))

def execClearFault (r : Req) (bed : Nat) (s : State) : Host.Outcome State Fault Refusal :=
  takeRequest r .clearFault s (takeClearFault bed)

/-- The crane's active order if it holds a granted span. -/
def State.grantedOrder (s : State) (c : Crane) : Option (Nat × Order) :=
  (s.activeOrder c).filter fun q => q.2.spanHeld

/-- R147: the crane span a clear would set. -/
def State.clearedSpan (s : State) (c : Crane) (x : Nat) : CraneSpan :=
  match (s.runway.get c).span with
  | some v => { v with range := v.range.hull (s.extentInterval c x) }
  | none => ⟨.rest, s.extentInterval c x⟩

/-- R147: the order's figures a clear would set. -/
def State.clearedSweep (s : State) (c : Crane) (x : Nat) (w : Sweep) : Sweep :=
  { w with span := w.span.hull (s.extentInterval c x), corridor := w.corridor.hull (s.clearanceInterval c x) }

/-- R147: whether a clear at x is BLOCKED by the other crane or by a bed under the order's new span. -/
def State.clearBlocked (s : State) (c : Crane) (x : Nat) : Bool :=
  (s.runway.get c.other).span.all (fun v => (s.clearedSpan c x).range.overlaps v.range) ||
    (s.grantedOrder c).any fun q =>
      q.2.sweep.any fun w =>
        allBeds.any fun b =>
          s.bedUnder b (s.clearedSweep c x w).span && !(s.holdsBed q.2 b && (s.quiesce.get b).state = .quiesced)

/-- R147: the effects of an accepted clear. BREACH leaves the crane's order that has it, also one that gave up its span (R157,
R163). DESIGN CHOICE (log 33): ORDER HALTED with the cause removed goes before BREACH CLEARED, as R147 lists them. -/
def State.clearBreach (s : State) (c : Crane) (x : Nat) : State :=
  let cleared := (s.modRunway c fun r => { r with breach := none }).setSpan c (some (s.clearedSpan c x))
  let widened :=
    match s.grantedOrder c with
    | some (e, _) => cleared.modOrder e fun o => { o with sweep := o.sweep.map (s.clearedSweep c x) }
    | none => cleared
  let freed := widened.forOrders (fun o => o.crane = c && o.causes.breach) fun s e => s.removeCause e .breach
  (((freed.evalMotion c).notifyCrane c (.breachCleared c)).notify .office (.breachCleared c)).settle
    [.examine c, .examine c.other]

/-- R147; a crane without a reported position has no breach to clear (log 28). -/
def takeClearBreach (crane : Nat) (s : State) : Reply :=
  match craneOf crane with
  | none => s.reply .range
  | some c =>
    if (s.runway.get c).breach.isNone then s.reply .ok
    else
      match (s.runway.get c).lastX with
      | none => s.reply .blocked
      | some x => if s.clearBlocked c x then s.reply .blocked else (s.clearBreach c x).reply .ok

def execClearBreach (r : Req) (crane : Nat) (s : State) : Host.Outcome State Fault Refusal :=
  takeRequest r .clearBreach s (takeClearBreach crane)

/-! ### RESTART -/

/-- R198: answered OK; START follows once the answer has gone out (log 6). -/
def execRestart (r : Req) (s : State) : Host.Outcome State Fault Refusal :=
  takeRequest r .restart s fun s => ({ s with restartOwed := true }).reply .ok

end Sys2Proof.Machine
end

