-- ==== Sys2Proof/Machine/Configure.lean ====
section
/-! DEFINITION. The configuration requests: CONFIG BEGIN (R195), the thirteen items of CONFIG WRITE (R196), CONFIG END with its
validation (R22, R38, R9, R125, R197) and its effects on the runway (R151), and ERASE (R198). -/

namespace Sys2Proof.Machine

open Sys2Proof

/-! ### CONFIG BEGIN -/

/-- R195: an entry live, a claim held, or a hall hold; a quiesce session is a live entry (R175). -/
def State.hallBusy (s : State) : Bool :=
  sharedNumbers.any (fun e => (s.entry e).isSome) ||
    allBeds.any fun b => (s.quiesce.get b).state ≠ .running || (s.claims.get b).isSome

/-- R195. -/
def takeConfigBegin (s : State) : Reply :=
  match s.part with
  | .config => s.reply .ok
  | .run =>
    if s.hallBusy then s.reply .busy else ({ s with staged := s.committed, part := .config }).evalOutputs.reply .ok

def execConfigBegin (r : Req) (s : State) : Host.Outcome State Fault Refusal :=
  takeRequest r .configBegin s takeConfigBegin

/-! ### CONFIG WRITE -/

/-- R196: the staged item is replaced, or the write is refused RANGE and stages nothing. -/
def takeWrite (item : HallConfig → Option HallConfig) (s : State) : Reply :=
  match item s.staged with
  | some c => ({ s with staged := c }).reply .ok
  | none => s.reply .range

/-- A value in its range, and what it does to the configuration. -/
def ranged (ok : Bool) (c : HallConfig) : Option HallConfig := if ok then some c else none

/-- A table index in its range (log 23). -/
def indexed (i size : Nat) (c : Option HallConfig) : Option HallConfig := if i < size then c else none

/-- R21. -/
def writeZone (i : Nat) (z : ZoneArg) (c : HallConfig) : Option HallConfig :=
  indexed i Config.zoneCount ((zoneOfArg z).map fun v => { c with zones := c.zones.setIfInBounds i v })

def execConfigWriteZone (r : Req) (i : Nat) (z : ZoneArg) (s : State) : Host.Outcome State Fault Refusal :=
  takeRequest r .configWrite s (takeWrite (writeZone i z))

/-- R26. -/
def writeStack (i : Nat) (k : StackArg) (c : HallConfig) : Option HallConfig :=
  indexed i Config.stackCount ((stackOfArg k).map fun v => { c with stackTable := c.stackTable.setIfInBounds i v })

def execConfigWriteStack (r : Req) (i : Nat) (k : StackArg) (s : State) : Host.Outcome State Fault Refusal :=
  takeRequest r .configWrite s (takeWrite (writeStack i k))

/-- R30. -/
def writeStationCentre (bed st x y : Nat) (c : HallConfig) : Option HallConfig :=
  match bedOf bed, stationOf st, pointOf x y with
  | some b, some st, some p =>
    some { c with stationCentres := c.stationCentres.set b ((c.stationCentres.get b).set st p) }
  | _, _, _ => none

def execConfigWriteStationCentre (r : Req) (bed st x y : Nat) (s : State) : Host.Outcome State Fault Refusal :=
  takeRequest r .configWrite s (takeWrite (writeStationCentre bed st x y))

/-- R9: a grade entry that records refer to may be written only with its committed content (log 22). -/
def takeWriteGrade (i : Nat) (g : GradeArg) (s : State) : Reply :=
  match gradeOfArg g with
  | none => s.reply .range
  | some v =>
    if Config.gradeCount ≤ i then s.reply .range
    else if s.gradeCount i ≠ 0 ∧ v ≠ s.committed.grade i then s.reply .inUse
    else ({ s with staged := { s.staged with grades := s.staged.grades.setIfInBounds i v } }).reply .ok

def execConfigWriteGrade (r : Req) (i : Nat) (g : GradeArg) (s : State) : Host.Outcome State Fault Refusal :=
  takeRequest r .configWrite s (takeWriteGrade i g)

/-- R32. -/
def writeInfeedCentre (x y : Nat) (c : HallConfig) : Option HallConfig :=
  (pointOf x y).map fun p => { c with infeedCentre := p }

def execConfigWriteInfeedCentre (r : Req) (x y : Nat) (s : State) : Host.Outcome State Fault Refusal :=
  takeRequest r .configWrite s (takeWrite (writeInfeedCentre x y))

/-- R33. -/
def writeScrapCentre (x y : Nat) (c : HallConfig) : Option HallConfig :=
  (pointOf x y).map fun p => { c with scrapCentre := p }

def execConfigWriteScrapCentre (r : Req) (x y : Nat) (s : State) : Host.Outcome State Fault Refusal :=
  takeRequest r .configWrite s (takeWrite (writeScrapCentre x y))

/-- R125. -/
def writeCraneParameter (crane : Nat) (k : CraneParam) (v : Nat) (c : HallConfig) : Option HallConfig :=
  (craneOf crane).bind fun n =>
    ranged (craneParamOk k v) { c with cranes := c.cranes.set n ((c.cranes.get n).put k v) }

def execConfigWriteCraneParameter (r : Req) (crane : Nat) (k : CraneParam) (v : Nat) (s : State) :
    Host.Outcome State Fault Refusal :=
  takeRequest r .configWrite s (takeWrite (writeCraneParameter crane k v))

/-- R125. -/
def writeRunwayLength (v : Nat) (c : HallConfig) : Option HallConfig :=
  ranged (within 10000 400000 v) { c with runway := v }

def execConfigWriteRunwayLength (r : Req) (v : Nat) (s : State) : Host.Outcome State Fault Refusal :=
  takeRequest r .configWrite s (takeWrite (writeRunwayLength v))

/-- R179. -/
def writeTimeoutPeriod (k : TimeoutClass) (v : Nat) (c : HallConfig) : Option HallConfig :=
  ranged (periodOk v) { c with periods := c.periods.set k v }

def execConfigWriteTimeoutPeriod (r : Req) (k : TimeoutClass) (v : Nat) (s : State) : Host.Outcome State Fault Refusal :=
  takeRequest r .configWrite s (takeWrite (writeTimeoutPeriod k v))

/-- R93. -/
def writeConsumableSetting (bed : Nat) (k : ConsumableItem) (v : Nat) (c : HallConfig) : Option HallConfig :=
  (bedOf bed).bind fun b =>
    ranged (consumableOk k v) { c with consumables := c.consumables.set b ((c.consumables.get b).put k v) }

def execConfigWriteConsumableSetting (r : Req) (bed : Nat) (k : ConsumableItem) (v : Nat) (s : State) :
    Host.Outcome State Fault Refusal :=
  takeRequest r .configWrite s (takeWrite (writeConsumableSetting bed k v))

/-- R101. -/
def writeBeaconSetting (bed : Nat) (k : BeaconArg) (c : HallConfig) : Option HallConfig :=
  (bedOf bed).bind fun b => ((c.beacons.get b).put k).map fun v => { c with beacons := c.beacons.set b v }

def execConfigWriteBeaconSetting (r : Req) (bed : Nat) (k : BeaconArg) (s : State) : Host.Outcome State Fault Refusal :=
  takeRequest r .configWrite s (takeWrite (writeBeaconSetting bed k))

/-- R79. -/
def writeMinimumRemnant (k : RemnantItem) (v : Nat) (c : HallConfig) : Option HallConfig :=
  ranged (remnantOk k v)
    (match k with
     | .length => { c with minLength := v }
     | .width => { c with minWidth := v })

def execConfigWriteMinimumRemnant (r : Req) (k : RemnantItem) (v : Nat) (s : State) : Host.Outcome State Fault Refusal :=
  takeRequest r .configWrite s (takeWrite (writeMinimumRemnant k v))

/-- R190. -/
def writeSilenceLimit (v : Nat) (c : HallConfig) : Option HallConfig :=
  ranged (within 50 5000 v) { c with silenceLimit := v }

def execConfigWriteSilenceLimit (r : Req) (v : Nat) (s : State) : Host.Outcome State Fault Refusal :=
  takeRequest r .configWrite s (takeWrite (writeSilenceLimit v))

/-! ### CONFIG END: validation -/

/-- A check that failed: its code, its number in R197, its number within the rule it names, and the object concerned
(log 21: the lowest-numbered one). -/
structure FailedCheck where
  code : Status
  check : Nat
  part : Option Nat
  object : Option ConfigObject
  deriving DecidableEq, Repr

/-- A check on zones or stacks: it fails with the first object that violates it. -/
def failFirst (check part : Nat) (object : Nat → ConfigObject) (violations : List Nat) : Option FailedCheck :=
  violations.head?.map fun n => { code := .range, check := check, part := some part, object := some (object n) }

/-- A check that names no object. -/
def failUnless (check part : Nat) (ok : Bool) : Option FailedCheck :=
  if ok then none else some { code := .range, check := check, part := some part, object := none }

/-- The valid zones that stand in conflict with another valid zone. -/
def HallConfig.conflicting (c : HallConfig) (clash : Zone → Zone → Bool) : List Nat :=
  (c.validZones.filter fun q => c.validZones.any fun p => p.1 ≠ q.1 && clash q.2 p.2).map (·.1)

/-- Two zone ranges overlap (R22). -/
def Zone.meets (a b : Zone) : Bool := a.xLo < b.xHi && b.xLo < a.xHi

/-- Two zones that may not stand together: two INFEED or two SCRAP entries (R22). -/
def Zone.sameSole (a b : Zone) : Bool := (a.kind.isInfeed && b.kind.isInfeed) || (a.kind.isScrap && b.kind.isScrap)

def ZoneKind.laneStacks : ZoneKind → List Nat
  | .stacking _ _ _ laneList => laneList
  | _ => []

/-- Two STACKING zones that name one stack (R22). -/
def Zone.shareStack (a b : Zone) : Bool := a.kind.laneStacks.any b.kind.laneStacks.contains

/-- Every station is named by exactly one valid entry (R22). -/
def HallConfig.stationsNamed (c : HallConfig) : Bool :=
  allBeds.all fun b => allStations.all fun st => (c.validZones.filter fun q => q.2.kind.isStation b st).length = 1

/-- R22. -/
def HallConfig.zoneChecks (c : HallConfig) : Option FailedCheck :=
  failFirst 1 1 .zone ((c.validZones.filter fun q => c.runway < q.2.xHi).map (·.1)) <|>
  failFirst 1 2 .zone (c.conflicting Zone.meets) <|>
  failFirst 1 3 .zone (c.conflicting Zone.sameSole) <|>
  failUnless 1 4 c.stationsNamed <|>
  failFirst 1 5 .zone (c.conflicting Zone.shareStack)

/-- The stacks that satisfy a condition, in order. -/
def stacksWhere (p : Nat → Bool) : List Nat := (List.range Config.stackCount).filter p

/-- Check 1 of R38: the stack's zone index and lane are those under which a STACKING entry lists it. -/
def HallConfig.listedRight (c : HallConfig) (n : Nat) : Bool :=
  (c.zone (c.stack n).zone).valid && ((c.zone (c.stack n).zone).kind.laneStacks)[(c.stack n).lane]? = some n

/-- Whether a centre decodes to a place. -/
def HallConfig.decodesTo (c : HallConfig) (p : Place) : Bool :=
  (c.centre p).any fun q => c.placeAt q.x q.y = some p

/-- R38, against the retained lists. -/
def State.placeChecks (s : State) (c : HallConfig) : Option FailedCheck :=
  failFirst 2 1 .stack (stacksWhere fun n => c.inUse n && !c.listedRight n) <|>
  failFirst 2 2 .stack (stacksWhere fun n => c.inUse n && !c.decodesTo (.stack n)) <|>
  failUnless 2 3 (allBeds.all fun b => allStations.all fun st => c.decodesTo (.station b st)) <|>
  failUnless 2 4 ((!c.hasInfeed || c.decodesTo .infeed) && (!c.hasScrap || c.decodesTo .scrap)) <|>
  failFirst 2 5 .stack (stacksWhere fun n => !(s.pile n).isEmpty && !c.inUse n) <|>
  failUnless 2 5 (s.infeed.isEmpty || c.hasInfeed) <|>
  failFirst 2 6 .stack (stacksWhere fun n =>
    (c.stack n).countLimit < (s.pile n).length || (c.stack n).heightLimit < s.thickness (s.pile n))

/-- Check 3 of R197: an entry that records refer to is valid. -/
def State.gradeChecks (s : State) (c : HallConfig) : Option FailedCheck :=
  ((List.range Config.gradeCount).find? fun g => s.gradeCount g ≠ 0 && !(c.grade g).valid).map fun g =>
    { code := .inUse, check := 3, part := none, object := some (.grade g) }

/-- R125, for one crane. -/
def State.craneChecks (s : State) (c : HallConfig) (n : Crane) : Option FailedCheck :=
  let new := c.cranes.get n
  let old := s.committed.cranes.get n
  let fail (ok : Bool) (part : Nat) : Option FailedCheck :=
    if ok then none else some { code := .range, check := 4, part := some part, object := some (.crane n) }
  fail (within 1000 60000 new.swl) 1 <|>
  fail (new.tare < new.swl) 2 <|>
  fail ((old.swl ≤ new.swl && new.tare ≤ old.tare) || new.tare + s.mass (s.hook n) ≤ new.swl) 3

/-- R197: the first failing check of the whole staged configuration. -/
def State.validation (s : State) (c : HallConfig) : Option FailedCheck :=
  c.zoneChecks <|> s.placeChecks c <|> s.gradeChecks c <|> s.craneChecks c .one <|> s.craneChecks c .two

/-! ### CONFIG END: effects -/

/-- The tick schedules start again: the first tick of each class falls one period from now (R179). -/
def State.restartTicks (s : State) : State :=
  { s with
    ticked := ⟨[], [], []⟩
    nextTick :=
      ⟨s.hallTime + BitVec.ofNat 32 s.committed.periods.answer, s.hallTime + BitVec.ofNat 32 s.committed.periods.wait,
       s.hallTime + BitVec.ofNat 32 s.committed.periods.travel⟩ }

/-- R151: a reported position is clamped to the committed runway. -/
def State.clampX (s : State) (c : Crane) : State :=
  s.modRunway c fun r => { r with lastX := r.lastX.map fun x => clamp s.committed.runway x }

def State.restAt (s : State) (c : Crane) : Option CraneSpan :=
  (s.runway.get c).lastX.map fun x => ⟨.rest, s.extentInterval c x⟩

/-- R151: both intervals become REST spans, unless they overlap: then both spans are UNKNOWN. -/
def State.resetSpans (s : State) : State :=
  let clash := (s.restAt .one).any fun a => (s.restAt .two).any fun b => a.range.overlaps b.range
  let put (t : State) (c : Crane) : State :=
    t.modRunway c fun r => { r with span := if clash then none else s.restAt c }
  put (put s .one) .two

/-- R197: the commit. -/
def State.commit (s : State) : State :=
  (((({ s with committed := s.staged, validMark := true, part := .run }).clampX .one).clampX .two).resetSpans).restartTicks.evalOutputs

def takeConfigEnd (s : State) : Reply :=
  match s.validation s.staged with
  | some f => (s, f.code, .configCheck f.check f.part f.object)
  | none => s.commit.reply .ok

def execConfigEnd (r : Req) (s : State) : Host.Outcome State Fault Refusal :=
  takeRequest r .configEnd s takeConfigEnd

/-! ### ERASE -/

/-- R18, R40, R65, R87, R103, R184, R198: every retained item at its default; generations, arc captures, faults, spans and
quiesce items stand. -/
def State.erase (s : State) : State :=
  { s with
    slots := s.slots.map fun v => { v with content := none }
    piles := Vector.replicate _ []
    stations := ⟨⟨emptyStation, emptyStation⟩, ⟨emptyStation, emptyStation⟩⟩
    infeed := []
    hooks := ⟨[], []⟩
    consumables := ⟨freshConsumable, freshConsumable⟩
    active := ⟨.a, .a⟩
    committed := defaultConfig
    staged := defaultConfig
    validMark := false }

def execErase (r : Req) (s : State) : Host.Outcome State Fault Refusal :=
  takeRequest r .erase s fun s => s.erase.reply .ok

end Sys2Proof.Machine
end

