-- ==== Sys2Proof/Machine/Lines.lean ====
section
/-! DEFINITION. Events of the input lines and of the beacon: ARC SENSE edges (R89 to R98), E-STOP (R120, R121), the 500 ms
boundaries of the beacon (R102), and START (R194). -/

namespace Sys2Proof.Machine

open Sys2Proof

/-! ### Rising edges -/

/-- R98: every record on the bed's active station is quarantined when the bed holds no claim. -/
def State.burntRecords (s : State) (b : Bed) : List Handle := if (s.claims.get b).isNone then s.activeRecords b else []

def State.quarantineAll (s : State) (hs : List Handle) : State :=
  hs.foldl (fun s h => s.modRecord h fun r => { r with quarantine := true }) s

/-- The FAULT notice of an unpermitted edge (R97); its orders are the bed's holders at the edge (log 26). -/
def State.faultNotice (s : State) (b : Bed) : Notice :=
  .fault b (s.active.get b) s.hallTime ((s.claims.get b).map (·.plate)) (s.burntRecords b) (s.refsOf fun o => s.holdsBed o b)

/-- R97: the latch, the orders in the holder set, MOTION ENABLE, ARC PERMIT and the FAULT notice, in that order. DESIGN CHOICE
(log 33): the claimed record becomes WORKED first, so that the RECALL END of its recall (R63, R90) goes before FAULT. -/
def State.unpermittedArc (s : State) (b : Bed) : State :=
  let notice := s.faultNotice b
  let tasks := (s.orders.filter fun q => s.holdsBed q.2 b).map fun q => Task.fault q.1 .arcFault
  let latched := (s.modArc b fun a => { a with fault := some s.hallTime }).workClaim b
  let stopped := (latched.quarantineAll (s.burntRecords b)).settle tasks
  ((stopped.evalMotions.evalPermit b).notify (.bed b) notice).notify .office notice

/-- R89, R90. -/
def State.riseArc (s : State) (b : Bed) : State :=
  let risen := s.modArc b fun a => { a with rise := some s.hallTime }
  if s.permit.get b then risen.workClaim b else risen.unpermittedArc b

def execArcSenseRisingEdge (b : Bed) (s : State) : Host.Outcome State Fault Refusal :=
  takeEvent s (fun s => !s.arcOn b) (·.riseArc b)

/-! ### Falling edges -/

/-- A threshold is reached when it is not 0 and the count is at or above it (R94). -/
def reached (threshold count : Nat) : Bool := threshold ≠ 0 && threshold ≤ count

def Consumable.reaches (c : Consumable) (k : ConsumableSettings) : ConsumableCause → Bool
  | .warnPierces => reached k.warnPierces c.pierces
  | .warnArcTime => reached (k.warnSeconds * 1000) c.arcTime
  | .holdPierces => reached k.holdPierces c.pierces
  | .holdArcTime => reached (k.holdSeconds * 1000) c.arcTime
  | .holdMisfires => 3 ≤ c.misfires
  | .changed => false

def Consumable.holdReached (c : Consumable) (k : ConsumableSettings) : Bool :=
  c.reaches k .holdPierces || c.reaches k .holdArcTime || c.reaches k .holdMisfires

def Consumable.warnReached (c : Consumable) (k : ConsumableSettings) : Bool :=
  c.reaches k .warnPierces || c.reaches k .warnArcTime

/-- R94: the state after an edge, from the state before it and the counts after it. -/
def Consumable.nextState (c : Consumable) (k : ConsumableSettings) : ConsumableState :=
  if c.state = .hold || c.holdReached k then .hold
  else if c.state = .ok && c.warnReached k then .warn
  else c.state

/-- R91, steps 1, 3 and 4: the counts of an arc of the given duration. -/
def Consumable.charge (c : Consumable) (minArc duration : Nat) : Consumable :=
  let timed := { c with arcTime := min Config.maxArcTime (c.arcTime + duration) }
  if minArc ≤ duration then { timed with pierces := min Config.maxPierces (timed.pierces + 1), misfires := 0 }
  else { timed with misfires := min Config.maxMisfires (timed.misfires + 1) }

/-- The causes a notice names, from the record before the edge and the counts after it (R95, log 25). -/
def consumableCauses (old new : Consumable) (k : ConsumableSettings) : List ConsumableCause :=
  ([.warnPierces, .warnArcTime].filter fun (q : ConsumableCause) =>
      new.reaches k q && (old.state = .ok || !old.reaches k q)) ++
    [.holdPierces, .holdArcTime, .holdMisfires].filter fun (q : ConsumableCause) => new.reaches k q && old.state ≠ .hold

/-- R91, step 2 and the nest pierce of step 3 (R69). -/
def Nest.charge (n : Nest) (minArc duration : Nat) : Nest :=
  { n with
    arcTime := min Config.maxArcTime (n.arcTime + duration)
    pierces := if minArc ≤ duration then min Config.maxPierces (n.pierces + 1) else n.pierces }

/-- R94, R95: a change of state sends CONSUMABLE to the bed and the office and re-evaluates the permit and the beacon. -/
def State.wearChanged (s : State) (b : Bed) (old : Consumable) : State :=
  let new := s.consumables.get b
  let notice := Notice.consumable b new.state (consumableCauses old new (s.committed.consumables.get b)) new.pierces
    new.arcTime new.misfires
  if new.state = old.state then s
  else (((s.evalPermit b).evalBeacon b).notify (.bed b) notice).notify .office notice

/-- R91, steps 1 to 5. -/
def State.chargeArc (s : State) (b : Bed) (duration : Nat) : State :=
  let k := s.committed.consumables.get b
  let old := s.consumables.get b
  let new := old.charge k.minArc duration
  let charged :=
    { s with
      consumables := s.consumables.set b { new with state := new.nextState k }
      claims := s.claims.set b ((s.claims.get b).map fun n => Nest.charge n k.minArc duration) }
  charged.wearChanged b old

/-- R91, step 6: a bed in PARKING whose PARKED is recorded, or whose session is degraded, becomes QUIESCED. -/
def State.arcWentOff (s : State) (b : Bed) : State :=
  if (s.quiesce.get b).state = .parking && ((s.quiesce.get b).parked || (s.quiesce.get b).degraded) then
    s.settle [.quiesced b]
  else s

/-- R89, R91. -/
def State.fallArc (s : State) (b : Bed) : State :=
  match (s.arcs.get b).rise with
  | some rise =>
    ((s.modArc b fun a => { a with rise := none }).chargeArc b (s.hallTime - rise).toNat).arcWentOff b
  | none => s

def execArcSenseFallingEdge (b : Bed) (s : State) : Host.Outcome State Fault Refusal :=
  takeEvent s (·.arcOn b) (·.fallArc b)

/-! ### Beacon -/

/-- R102: a flashing line is evaluated at the boundary. -/
def State.flashBeacon (s : State) (b : Bed) : State :=
  if s.part = .run && s.beaconLook b = .flashing then s.evalBeacon b else s

def execBeaconFlashBoundary (s : State) : Host.Outcome State Fault Refusal :=
  takeEvent s (fun s => s.hallTime.toNat % 500 = 0) fun s => (s.flashBeacon .one).flashBeacon .two

/-! ### Emergency stop -/

/-- R120. -/
def State.assertEStop (s : State) : State :=
  let refs := s.refsOf Order.takesOutside
  (((((({ s with eStop := true }).evalPermit .one).evalPermit .two).evalMotions).forOrders Order.takesOutside
    fun s e => s.addOutside e .estop)).notify .office (.estop refs)

def execEStopAsserted (s : State) : Host.Outcome State Fault Refusal :=
  takeEvent s (fun s => !s.eStop) State.assertEStop

/-- R121. -/
def State.releaseEStop (s : State) : State :=
  (((((({ s with eStop := false }).evalPermit .one).evalPermit .two).forOrders (·.causes.estop)
    fun s e => s.removeCause e .estop)).evalMotions).notify .office .estopClear

def execEStopReleased (s : State) : Host.Outcome State Fault Refusal :=
  takeEvent s (·.eStop) State.releaseEStop

/-! ### START -/

/-- R16: one record recovered. -/
def Record.recover (r : Record) : Record :=
  let free := { r with booking := none, waitSlot := none }
  match r.custody with
  | .rest => free
  | .carried c => { free with custody := .orphaned c }
  | .orphaned _ => free
  | .claimed _ => { free with custody := .rest }
  | .worked _ => { free with custody := .rest, incomplete := true, quarantine := true }

/-- START of every block up to the START notice: retained items stand, volatile items take their values after START (R10,
R16, R39, R65, R87, R103, R122, R151, R173, R184, R194). -/
def State.cleared (s : State) : State :=
  { s with
    part := .config
    restartOwed := false
    hallTime := 0
    eStop := false
    links := ⟨startLink, ⟨startLink, startLink⟩, ⟨startLink, startLink⟩⟩
    mask := allClasses
    txAnswer := none
    txNotice := none
    staged := s.committed
    slots := s.slots.map fun v => { v with content := v.content.map Record.recover }
    claims := ⟨none, none⟩
    arcs := ⟨⟨none, none⟩, ⟨none, none⟩⟩
    beacon := ⟨false, false⟩
    quiesce := ⟨startQuiesce, startQuiesce⟩
    permit := ⟨false, false⟩
    runway := ⟨startRunway, startRunway⟩
    motion := ⟨false, false⟩
    shared := Vector.replicate _ none }

/-- The ORPHANED records of a crane in hook order (R17). -/
def State.orphans (s : State) (c : Crane) : List Handle := (s.hook c).filter fun h => s.custodyOf h = some (.orphaned c)

/-- R17. -/
def State.startNotice (s : State) : Notice := .start (s.orphans .one) (s.orphans .two) (s.handlesWhere (·.incomplete))

/-- R103: an ARC SENSE input found asserted is a rising edge at hall time 0. -/
def State.foundArc (s : State) (b : Bed) (level : Bool) : State := if level then s.riseArc b else s

/-- R194: RUN with the valid mark set, CONFIG without. -/
def State.enterPart (s : State) : State := ({ s with part := if s.validMark then .run else .config }).evalOutputs

/-- R194, R121. DESIGN CHOICE (log 33): of two arcs found burning (R103), bed 1's edge is taken first. -/
def State.start (s : State) (eStop arcOne arcTwo : Bool) : State :=
  let told := s.cleared.restartTicks.notify .office s.cleared.startNotice
  let entered := ((told.foundArc .one arcOne).foundArc .two arcTwo).enterPart
  if eStop then entered.assertEStop else entered

def execStart (eStop arcOne arcTwo : Bool) (s : State) : Host.Outcome State Fault Refusal :=
  .next (s.start eStop arcOne arcTwo)

end Sys2Proof.Machine
end

