-- ==== Sys2Proof/Machine/Timeouts.lean ====
section
/-! DEFINITION. The timeout classes: ticks and ages (R179 to R181) and the four expiries (R183: R168, R64, R113). -/

namespace Sys2Proof.Machine

open Sys2Proof

/-! ### Expiries -/

/-- The causes of an expiry (R168). -/
def timeoutCause : CauseSet := CauseSet.only .timeout

/-- R168. -/
def State.orderExpiryTasks (s : State) (e : Nat) (o : Order) : List Task :=
  match o.stage with
  | .reserving => if s.hookLoaded o.crane then [.giveUp e timeoutCause] else [.endOrder e .blocked none]
  | _ => [.burden e timeoutCause]

def State.expireOrder (s : State) (e : Nat) : State :=
  match s.orderAt e with
  | some o => s.settle (s.orderExpiryTasks e o)
  | none => s

def State.recallAt (s : State) (e : Nat) : Option Recall :=
  match s.entry e with
  | some (.recall r) => some r
  | _ => none

/-- R64. -/
def State.expireRecall (s : State) (e : Nat) : State :=
  match s.recallAt e with
  | some r => s.endRecall r.handle .noAnswer
  | none => s

/-- R113: expiry in STOPPING. -/
def State.expireStopping (s : State) (b : Bed) : State :=
  let forced := Notice.forced b (s.quiesce.get b).session ((s.claims.get b).map (·.plate)) s.hallTime
  (((s.setQuiesce b fun q =>
      { q with state := .parking, allowance := false, parked := false, timer := some freshTimer }).notify (.bed b)
    forced).notify .office forced).notify (.bed b) (.park (s.quiesce.get b).session)

/-- The outcome of a removed holder (R113, R168). -/
def State.removedTask (s : State) (e : Nat) (o : Order) : Task :=
  if s.hookLoaded o.crane then .giveUp e timeoutCause else .endOrder e .quiesceTimeout none

/-- The orders in a bed's holder set. DESIGN CHOICE (log 37): QUIESCE TIMEOUT lists the removed orders crane 1's before crane
2's; R113 gives no order of that list. -/
def State.holdersOf (s : State) (b : Bed) : List (Nat × Order) :=
  allCranes.flatMap fun c => s.orders.filter fun q => q.2.crane = c && s.holdsBed q.2 b

/-- R113: expiry in PARKING (log 19; the order of the list in QUIESCE TIMEOUT: log 37). -/
def State.expireParking (s : State) (b : Bed) : State :=
  let removed := s.holdersOf b
  let told := s.notify .office (.quiesceTimeout b (s.quiesce.get b).session (removed.map (·.2.ref)))
  let left :=
    if (s.quiesce.get b).holders.hall then
      told.modQuiesce b fun q => { q with holders := { noHolders with hall := true }, timer := some freshTimer }
    else told.closeSession b
  left.settle (removed.map fun q => s.removedTask q.1 q.2)

def State.expireSession (s : State) (b : Bed) : State :=
  match (s.quiesce.get b).state with
  | .stopping => s.expireStopping b
  | .parking => s.expireParking b
  | _ => s

/-- An expiry is delivered to the block that owns the entry (R181, R183). -/
def State.expireEntry (s : State) (e : Nat) : State :=
  match bedOfEntry e with
  | some b => s.expireSession b
  | none =>
    match s.entry e with
    | some (.order _) => s.expireOrder e
    | some (.recall _) => s.expireRecall e
    | _ => s

/-! ### Ticks -/

/-- The class and the age of a timed shared entry (R180). -/
def Entry.timing : Entry → Option (TimeoutClass × Nat)
  | .order o => o.stage.cls.bind fun k => o.timer.map fun t => (k, t.age)
  | .recall r => some (.answer, r.timer.age)
  | .hold _ => none

/-- The class and the age of a timed quiesce entry (R180). -/
def Quiesce.timing (q : Quiesce) : Option (TimeoutClass × Nat) :=
  q.state.cls.bind fun k => q.timer.map fun t => (k, t.age)

/-- The class and the age of a live timed entry, 0 to 7. -/
def State.timing (s : State) (e : Nat) : Option (TimeoutClass × Nat) :=
  match bedOfEntry e with
  | some b => (s.quiesce.get b).timing
  | none => (s.entry e).bind Entry.timing

/-- The class of which a tick is at hand that the entry meets at age 2, its own tick being still to be taken. -/
def State.expiring (s : State) (e : Nat) : Option TimeoutClass :=
  (s.timing e).bind fun q =>
    if 2 ≤ q.2 ∧ s.hallTime = s.nextTick.get q.1 ∧ e ∉ s.ticked.get q.1 then some q.1 else none

/-- The tick of an entry at age 2, an event of its own: the entry expires, and this tick of its class does not examine it again
(R181, log 3). -/
def State.tickExpiry (s : State) (e : Nat) : State :=
  match s.expiring e with
  | some k =>
    let s' := s.expireEntry e
    { s' with ticked := s'.ticked.set k (s'.ticked.get k ++ [e]) }
  | none => s

/-- The tick of an entry at age 2 if it is of this class. -/
def State.tickExpiryOf (k : TimeoutClass) (s : State) (e : Nat) : State :=
  if s.expiring e = some k then s.tickExpiry e else s

/-- R181: 0 to 1, 1 to 2. -/
def Timer.tick (t : Timer) : Timer := if t.age < 2 then { age := t.age + 1 } else t

/-- An entry timed in the class ages; any other is not examined. -/
def Entry.tick (k : TimeoutClass) : Entry → Entry
  | .order o => if o.stage.cls = some k then .order { o with timer := o.timer.map Timer.tick } else .order o
  | .recall r => if k = .answer then .recall { r with timer := r.timer.tick } else .recall r
  | .hold t => .hold t

def Quiesce.tick (k : TimeoutClass) (q : Quiesce) : Quiesce :=
  if q.state.cls = some k then { q with timer := q.timer.map Timer.tick } else q

/-- The ages that a tick of a class moves, of the entries that it still examines. -/
def State.ageClass (s : State) (k : TimeoutClass) : State :=
  { s with
    shared := s.shared.mapFinIdx fun i v _ => if i + 2 ∈ s.ticked.get k then v else v.map (Entry.tick k)
    quiesce :=
      ⟨if 0 ∈ s.ticked.get k then s.quiesce.one else s.quiesce.one.tick k,
       if 1 ∈ s.ticked.get k then s.quiesce.two else s.quiesce.two.tick k⟩ }

/-- R181, and the class's next tick one period later (R179). Every entry still at age 2 expires in this event, in entry order,
before the other ages move (log 3). DESIGN CHOICE (log 35): the period added is the committed one also between an ERASE and the
next CONFIG END, which starts every schedule again. -/
def State.tickClass (s : State) (k : TimeoutClass) : State :=
  let expired := (entryNumbers.filter fun e => s.expiring e = some k).foldl (State.tickExpiryOf k) s
  { expired.ageClass k with
    nextTick := s.nextTick.set k (s.nextTick.get k + BitVec.ofNat 32 (s.committed.periods.get k))
    ticked := expired.ticked.set k [] }

def execClassTick (k : TimeoutClass) (s : State) : Host.Outcome State Fault Refusal :=
  takeEvent s (fun s => s.hallTime = s.nextTick.get k) (·.tickClass k)

/-! ### The four expiry events -/

def execOrderExpiry (e : Nat) (s : State) : Host.Outcome State Fault Refusal :=
  takeEvent s (fun s => 2 ≤ e && (s.orderAt e).isSome) (·.tickExpiry e)

def execRecallExpiry (e : Nat) (s : State) : Host.Outcome State Fault Refusal :=
  takeEvent s (fun s => 2 ≤ e && (s.recallAt e).isSome) (·.tickExpiry e)

def execStoppingExpiry (b : Bed) (s : State) : Host.Outcome State Fault Refusal :=
  takeEvent s (fun s => (s.quiesce.get b).state = .stopping) (·.tickExpiry (entryOfBed b))

def execParkingExpiry (b : Bed) (s : State) : Host.Outcome State Fault Refusal :=
  takeEvent s (fun s => (s.quiesce.get b).state = .parking) (·.tickExpiry (entryOfBed b))

end Sys2Proof.Machine
end

