-- ==== Sys2Proof/Machine/Beds.lean ====
section
/-! DEFINITION. The requests of the beds: active station (R44), claims (R47 to R49), marking (R71 to R77), quiesce answers (R109,
R111), recall answers (R62) and consumables (R96). -/

namespace Sys2Proof.Machine

open Sys2Proof

/-- The bed of a bed link. The role check of R188 lets no other link through. -/
def State.withBed (s : State) (l : Link) (f : Bed → Reply) : Reply :=
  match l with
  | .bed b => f b
  | _ => s.reply .role

/-! ### Active station -/

/-- R44: an order holds a granted move span over the station, and the bed is not in its holder set. -/
def State.craneOver (s : State) (b : Bed) (st : Station) : Bool :=
  s.orders.any fun q => q.2.spanHeld && (q.2.sweep.any fun w => s.stationUnder b st w.span) && !s.holdsBed q.2 b

/-- R44; a station code other than 0 or 1: log 23. -/
def takeSelectStation (st : Nat) (b : Bed) (s : State) : Reply :=
  match stationOf st with
  | none => s.reply .range
  | some v =>
    if (s.claims.get b).isSome then s.reply .held
    else if s.craneOver b v then s.reply .craneOver
    else ({ s with active := s.active.set b v }).reply .ok

def execSelectStation (r : Req) (st : Nat) (s : State) : Host.Outcome State Fault Refusal :=
  takeRequest r .selectStation s fun s => s.withBed r.link fun b => takeSelectStation st b s

/-! ### Claims -/

/-- R47, checks 4 to 9. -/
def State.claimCheck (s : State) (b : Bed) (h : Handle) (r : Record) : Option Status :=
  let at_ := s.station b (s.active.get b)
  if (s.claims.get b).isSome then some .held
  else if !at_.records.contains h then some .notHere
  else if at_.skeleton then some .skeleton
  else if at_.records ≠ [h] ∨ (s.inboundAt (s.activePlace b) none).1 ≠ 0 then some .shared
  else if r.booking.isSome then some .booked
  else if r.quarantine then some .quarantined
  else none

/-- Whether the bed holds the claim on the record a handle names. -/
def State.holdsClaim (s : State) (b : Bed) (h : Handle) : Bool := (s.claims.get b).any fun n => n.plate = h

/-- R48: custody, claim and nest record, permit. -/
def State.beginClaim (s : State) (b : Bed) (n : Nest) : State :=
  ((s.setCustody n.plate (.claimed b)).setClaim b (some n)).evalPermit b

/-- R47, R49. -/
def takeClaim (h : Handle) (nest : NestArg) (b : Bed) (s : State) : Reply :=
  s.withHandle h fun r =>
    if s.holdsClaim b h then s.reply .heldByYou
    else
      match s.claimCheck b h r with
      | some code => s.reply code
      | none =>
        match nestOfArg h r nest with
        | .error code => s.reply code
        | .ok n => (s.beginClaim b n).reply .ok

def execClaim (r : Req) (h : Handle) (nest : NestArg) (s : State) : Host.Outcome State Fault Refusal :=
  takeRequest r .claim s fun s => s.withBed r.link fun b => takeClaim h nest b s

/-! ### Marking -/

/-- R71. -/
def State.markRecord (s : State) (n : Nest) (p : Nat) (v : Part) : MarkRecord where
  part := p
  mark := v.mark
  attempt := v.attempts + 1
  heat := ((s.recordOf n.plate).map (·.heat)).getD []
  gradeName := ((s.recordOf n.plate).map fun r => (s.committed.grade r.grade).name).getD []
  plate := n.plate
  nestName := n.name

/-- The first part in a mark state, with its number. -/
def Nest.firstIn (n : Nest) (m : MarkState) : Option (Nat × Part) :=
  ((List.range n.parts.length).filterMap fun i => n.parts[i]?.map fun v => (i + 1, v)).find? fun q => q.2.state = m

/-- R72, R73. -/
def takeNextMark (b : Bed) (s : State) : Reply :=
  match s.claims.get b with
  | none => s.reply .state
  | some n =>
    if s.eStop then s.reply .estop
    else if (s.quiesce.get b).state ≠ .running then s.reply .quiesced
    else
      match n.firstIn .issued with
      | some (p, v) => (s, .ok, .mark (s.markRecord n p v))
      | none =>
        match n.firstIn .pending with
        | some (p, v) => (s.setPart b n p { v with state := .issued }, .ok, .mark (s.markRecord n p v))
        | none => s.reply .none_

def execNextMark (r : Req) (s : State) : Host.Outcome State Fault Refusal :=
  takeRequest r .nextMark s fun s => s.withBed r.link fun b => takeNextMark b s

/-- Checks 2 and 3 of R74: the bed holds a claim, and its nest has the part. -/
def State.withPart (s : State) (b : Bed) (p : Nat) (f : Nest → Part → Reply) : Reply :=
  match s.claims.get b with
  | none => s.reply .state
  | some n =>
    match n.part p with
    | none => s.reply .range
    | some v => f n v

/-- R74. -/
def takeMarked (p : Nat) (b : Bed) (s : State) : Reply :=
  s.withPart b p fun n v =>
    match v.state with
    | .issued => ((s.setPart b n p { v with state := .marked }).workClaim b).reply .ok
    | .marked => s.reply .ok
    | _ => s.reply .state

def execMarked (r : Req) (part : Nat) (s : State) : Host.Outcome State Fault Refusal :=
  takeRequest r .marked s fun s => s.withBed r.link fun b => takeMarked part b s

/-- R75: the third failed attempt. -/
def State.markFailedNotice (s : State) (b : Bed) (n : Nest) (p : Nat) (v : Part) : Notice :=
  .markFailed n.plate (((s.recordOf n.plate).map (·.heat)).getD []) b n.name p v.mark

/-- R75. -/
def takeMarkFailed (p : Nat) (b : Bed) (s : State) : Reply :=
  s.withPart b p fun n v =>
    if v.state ≠ .issued then s.reply .state
    else if v.attempts + 1 < 3 then
      (s.setPart b n p { v with state := .pending, attempts := v.attempts + 1 }, .ok, .markState .pending)
    else
      ((s.setPart b n p { v with state := .failed, attempts := v.attempts + 1 }).notify .office
          (s.markFailedNotice b n p v), .ok, .markState .failed)

def execMarkFailed (r : Req) (part : Nat) (s : State) : Host.Outcome State Fault Refusal :=
  takeRequest r .markFailed s fun s => s.withBed r.link fun b => takeMarkFailed part b s

/-- R77: the mark states in which a part may be cut. -/
def MarkState.cuttable : MarkState → Bool
  | .marked => true
  | .waived => true
  | .noMark => true
  | _ => false

def takeCutDone (p : Nat) (b : Bed) (s : State) : Reply :=
  s.withPart b p fun n v =>
    if v.state.cuttable then (s.setPart b n p { v with cut := true }).reply .ok else s.reply .unmarked

def execCutDone (r : Req) (part : Nat) (s : State) : Host.Outcome State Fault Refusal :=
  takeRequest r .cutDone s fun s => s.withBed r.link fun b => takeCutDone part b s

/-! ### Quiesce answers -/

/-- R109. -/
def takeContourDone (session : Nat) (b : Bed) (s : State) : Reply :=
  if (s.quiesce.get b).state = .stopping ∧ (s.quiesce.get b).session = session then
    ((s.setQuiesce b fun q =>
        { q with state := .parking, allowance := false, parked := false, timer := some freshTimer }).notify (.bed b)
      (.park session)).reply .ok
  else s.reply .late

def execContourDone (r : Req) (session : Nat) (s : State) : Host.Outcome State Fault Refusal :=
  takeRequest r .contourDone s fun s => s.withBed r.link fun b => takeContourDone session b s

/-- R111. -/
def takeParked (session : Nat) (b : Bed) (s : State) : Reply :=
  if (s.quiesce.get b).state = .parking ∧ (s.quiesce.get b).session = session then
    let fresh := s.modQuiesce b fun q => { q with timer := some freshTimer }
    if s.arcOn b then (fresh.modQuiesce b fun q => { q with parked := true }).reply .ok
    else (fresh.settle [.quiesced b]).reply .ok
  else s.reply .late

def execParked (r : Req) (session : Nat) (s : State) : Host.Outcome State Fault Refusal :=
  takeRequest r .parked s fun s => s.withBed r.link fun b => takeParked session b s

/-! ### Recall answers -/

/-- R62: the bed has an outstanding recall on the record. -/
def State.recalled (s : State) (b : Bed) (h : Handle) : Bool :=
  s.holdsClaim b h && (s.recallOf h).any fun q => q.2.bed = b

/-- R62; the handle is checked first (log 17). -/
def takeYield (h : Handle) (b : Bed) (s : State) : Reply :=
  s.withHandle h fun _ =>
    if s.recalled b h then ((s.setCustody h .rest).endClaim b h .done).reply .ok else s.reply .late

def execYield (r : Req) (h : Handle) (s : State) : Host.Outcome State Fault Refusal :=
  takeRequest r .yield s fun s => s.withBed r.link fun b => takeYield h b s

def takeRefuse (h : Handle) (b : Bed) (s : State) : Reply :=
  s.withHandle h fun _ => if s.recalled b h then (s.endRecall h .kept).reply .ok else s.reply .late

def execRefuse (r : Req) (h : Handle) (s : State) : Host.Outcome State Fault Refusal :=
  takeRequest r .refuse s fun s => s.withBed r.link fun b => takeRefuse h b s

/-! ### Consumables -/

/-- R96. -/
def State.renewConsumables (s : State) (b : Bed) : State :=
  ((({ s with consumables := s.consumables.set b freshConsumable }).evalPermit b).evalBeacon b).notify .office
    (.consumable b .ok [.changed] 0 0 0)

def takeConsumablesChanged (b : Bed) (s : State) : Reply :=
  if s.arcOn b then s.reply .arcOn else (s.renewConsumables b).reply .ok

def execConsumablesChanged (r : Req) (s : State) : Host.Outcome State Fault Refusal :=
  takeRequest r .consumablesChanged s fun s => s.withBed r.link fun b => takeConsumablesChanged b s

end Sys2Proof.Machine
end

