-- ==== Sys2Proof/Machine/Returns.lean ====
section
/-! DEFINITION. RETURN and RELEASE (R51 to R53), and the cut return: rectangles (R78 to R80), areas (R81, R82), and carrying it
out (R83 to R85). -/

namespace Sys2Proof.Machine

open Sys2Proof

/-! ### Rectangles and areas -/

/-- R78: offsets and dimensions in range, inside the plate. -/
def rectInside (q : Rect) (r : Record) : Bool :=
  q.x ≤ 20000 && q.y ≤ 4800 && within 1 20000 q.l && within 1 4800 q.w && q.x + q.l ≤ r.length && q.y + q.w ≤ r.width

/-- R78: interiors share area. -/
def rectsMeet (p q : Rect) : Bool :=
  p.x < q.x + q.l && q.x < p.x + p.l && p.y < q.y + q.w && q.y < p.y + p.w

/-- No rectangle overlaps an earlier one. -/
def rectsApart : List Rect → Bool
  | [] => true
  | q :: qs => qs.all (fun p => !rectsMeet q p) && rectsApart qs

def rectsOk (r : Record) (qs : List Rect) : Bool := qs.all (rectInside · r) && rectsApart qs

/-- R79. -/
def HallConfig.undersize (c : HallConfig) (q : Rect) : Bool := q.l < c.minLength || q.w < c.minWidth

/-- What R79 and R80 decide for a rectangle, before any slot is allocated. -/
inductive RectFate where
  | created
  | undersize
  | dropped
  deriving DecidableEq, Repr

/-- R80: with so many slots available, the rectangles that are not undersize take one each in declaration order. -/
def rectFates (c : HallConfig) : Nat → List Rect → List RectFate
  | _, [] => []
  | slots, q :: qs =>
    if c.undersize q then .undersize :: rectFates c slots qs
    else
      match slots with
      | 0 => .dropped :: rectFates c 0 qs
      | n + 1 => .created :: rectFates c n qs

/-- The rectangles that become remnants. -/
def createdRects (qs : List Rect) (fates : List RectFate) : List Rect :=
  ((qs.zip fates).filter fun q => q.2 = .created).map (·.1)

/-- A_c of R81. -/
def Nest.areaCut (n : Nest) : Nat := ((n.parts.filter (·.cut)).map (·.area)).sum

/-- A_r of R81. -/
def areaRemnants (qs : List Rect) : Nat := (qs.map fun q => q.l * q.w / 100).sum

/-- R82, per mille. -/
def yieldOf (cut plate : Nat) : Nat := 1000 * cut / plate

/-! ### Carrying out -/

/-- The remnant record of a rectangle (R83). -/
def State.remnant (s : State) (plate : Handle) (r : Record) (q : Rect) : Record where
  kind := .remnant
  grade := r.grade
  heat := r.heat
  length := q.l
  width := q.w
  thickness := r.thickness
  mass := s.massFor r.grade q.l q.w r.thickness
  parent := some plate
  custody := .rest
  booking := none
  waitSlot := none
  quarantine := r.quarantine
  incomplete := false

/-- R83, step 2, for one rectangle: the lowest free slot, at the tail of the station list. -/
def State.createRemnant (s : State) (p : Place) (r : Record) : State :=
  match s.lowestFree with
  | some i => (s.occupy i r).setListAt p (s.listAt p ++ [s.nextHandle i])
  | none => s

/-- The rectangles as the part took them, the created ones by the handles that joined the station list. -/
def rectResults : List RectFate → List Handle → List RectResult
  | [], _ => []
  | .undersize :: fs, hs => .undersize :: rectResults fs hs
  | .dropped :: fs, hs => .dropped :: rectResults fs hs
  | .created :: fs, h :: hs => .remnant h :: rectResults fs hs
  | .created :: fs, [] => .dropped :: rectResults fs []

/-- R83, step 3 (R31). -/
def State.setSkeleton (s : State) (b : Bed) (mass : Nat) : State :=
  s.setStation b (s.active.get b)
    { s.station b (s.active.get b) with skeleton := true, skeletonMass := mass }

/-- The figures of a cut return. -/
structure CutFigures where
  fates : List RectFate
  areaCut : Nat
  areaRemnants : Nat
  areaScrap : Nat
  skeletonMass : Nat
  deriving DecidableEq, Repr

/-- R80 to R82: the figures, or none when S would be negative. -/
def State.cutFigures (s : State) (n : Nest) (r : Record) (qs : List Rect) : Option CutFigures :=
  let fates := rectFates s.committed (s.freeSlots.length + 1) qs
  let remnants := areaRemnants (createdRects qs fates)
  if n.area < n.areaCut + remnants then none
  else
    let scrap := n.area - n.areaCut - remnants
    some { fates := fates, areaCut := n.areaCut, areaRemnants := remnants, areaScrap := scrap,
           skeletonMass := skeletonMass scrap r.thickness (s.committed.grade r.grade).density }

/-- R84. -/
def State.nestDone (s : State) (b : Bed) (n : Nest) (r : Record) (a : ReturnArg) (k : CutFigures)
    (rects : List RectResult) : NestDone where
  plate := n.plate
  heat := r.heat
  gradeName := (s.committed.grade r.grade).name
  nestName := n.name
  bed := b
  station := s.active.get b
  parts := n.parts.map fun p => (p.state, p.cut)
  rects := rects
  areaPlate := n.area
  areaCut := k.areaCut
  areaRemnants := k.areaRemnants
  areaScrap := k.areaScrap
  yield := yieldOf k.areaCut n.area
  skeletonMass := k.skeletonMass
  pierces := n.pierces
  arcTime := n.arcTime
  bedPierces := a.pierces
  bedCutTime := a.cutTime

/-- R83, step 1: the plate is freed and leaves its list, and the order in its wait slot ends REFUSED(GONE) with all that its end
sets off (R59, R170; log 18). -/
def State.retirePlate (s : State) (plate : Handle) : State := (s.free plate).settle (s.waiterTasks plate)

/-- R83, steps 1 to 3: the plate retired, the remnants created, the skeleton set. -/
def State.cutPlate (s : State) (b : Bed) (n : Nest) (r : Record) (qs : List Rect) (k : CutFigures) : State :=
  let remnants := (createdRects qs k.fates).map fun q => s.remnant n.plate r q
  (remnants.foldl (fun t v => t.createRemnant (s.activePlace b) v) (s.retirePlate n.plate)).setSkeleton b k.skeletonMass

/-- R83: steps 1 to 3, the claim's end, and NEST DONE in the office queue. -/
def State.carryOut (s : State) (b : Bed) (n : Nest) (r : Record) (a : ReturnArg) (k : CutFigures) : Reply :=
  let cut := s.cutPlate b n r a.rects k
  let rects := rectResults k.fates (cut.activeRecords b)
  ((cut.endClaim b n.plate .kept).notify .office (.nestDone (s.nestDone b n r a k rects)),
    .ok, .cutReturn rects k.skeletonMass)

/-- R78, R81: a cut return is checked whole and carried out whole. -/
def State.cutReturn (s : State) (b : Bed) (n : Nest) (r : Record) (a : ReturnArg) : Reply :=
  if !rectsOk r a.rects then s.reply .range
  else
    match s.cutFigures n r a.rects with
    | none => s.reply .overrun
    | some k => s.carryOut b n r a k

/-! ### RETURN and RELEASE -/

/-- Checks 2 and 3 of R51. -/
def State.withClaimOf (s : State) (b : Bed) (h : Handle) (f : Nest → Record → Reply) : Reply :=
  s.withHandle h fun r =>
    match s.claims.get b with
    | some n => if n.plate = h then f n r else s.reply .state
    | none => s.reply .state

/-- R53, R54. -/
def State.releaseClaim (s : State) (b : Bed) (n : Nest) (r : Record) : State :=
  (s.giveBack b n r).endClaim b n.plate .done

/-- R52; a rectangle count above 2, or a body without the rectangles it states, fails the FORMAT check (R78). -/
def takeReturn (h : Handle) (a : ReturnArg) (b : Bed) (s : State) : Reply :=
  if 2 < a.count ∨ a.rects.length ≠ a.count then s.reply .format
  else
    s.withClaimOf b h fun n r =>
      if r.custody = .worked b ∧ n.parts.any (·.cut) then s.cutReturn b n r a else (s.releaseClaim b n r).reply .ok

def execReturn (r : Req) (h : Handle) (result : ReturnArg) (s : State) : Host.Outcome State Fault Refusal :=
  takeRequest r .return_ s fun s => s.withBed r.link fun b => takeReturn h result b s

def takeRelease (h : Handle) (b : Bed) (s : State) : Reply :=
  s.withClaimOf b h fun n r => (s.releaseClaim b n r).reply .ok

def execRelease (r : Req) (h : Handle) (s : State) : Host.Outcome State Fault Refusal :=
  takeRequest r .release s fun s => s.withBed r.link fun b => takeRelease h b s

end Sys2Proof.Machine
end

