-- ==== Sys2Proof/Machine/Cranes.lean ====
section
/-! DEFINITION. The requests of the cranes: new orders (R153 to R155), AT (R139 to R141), HALT, RESUME, REDIRECT and ABANDON
(R164 to R169). PICKED and LANDED are in Machine/Lifts.lean. -/

namespace Sys2Proof.Machine

open Sys2Proof

/-- The crane of a crane link. The role check of R188 lets no other link through. -/
def State.withCrane (s : State) (l : Link) (f : Crane → Reply) : Reply :=
  match l with
  | .crane c => f c
  | _ => s.reply .role

/-! ### New orders -/

/-- An order as its request gives it: QUEUED, holding nothing (R153). -/
def newOrder (c : Crane) (tag : Nat) (kind : OrderKind) (source : Option Place) (count : Nat) (dest : Destination) :
    Order where
  crane := c
  tag := tag
  kind := kind
  source := source
  count := count
  dest := dest
  stage := .queued
  timer := none
  records := []
  left := []
  extras := []
  skeleton := .none
  sweep := none
  spanHeld := false
  causes := noCauses
  remembered := .reserving
  redirect := none
  short := false
  inbound := none

/-- Check 6 of R153: ORPHANED records on the hook, and no MOVE with source HOOK of this crane live. -/
def State.hookBlocked (s : State) (c : Crane) : Bool :=
  !(s.orphans c).isEmpty && !s.orders.any fun q => q.2.crane = c && q.2.kind = .move && q.2.source = some (.hook c)

/-- Checks 2 to 6 of R153; the places' ranges are checked where they are read. -/
def State.newOrderCheck (s : State) (c : Crane) (o : Order) (inRange : Bool) : Option Status :=
  if !inRange then some .range
  else
    match s.entryCheck o.tag (s.craneTags c) (2 ≤ (s.craneTags c).length) with
    | some code => some code
    | none => if s.hookBlocked c && !o.fromHook then some .hookLoaded else none

def sweepBody (w : Option Sweep) : AnswerBody := .sweep (w.map fun w => (w.span, w.corridor))

/-- R153 to R155, once the checks of R153 pass and entry e is free. -/
def State.placeOrder (s : State) (c : Crane) (e : Nat) (o : Order) : Reply :=
  if (s.activeOrder c).isSome then (s.setEntry e (some (.order o))).reply .queued
  else
    match s.acceptance (s.withRecords o) with
    | some code => s.reply code
    | none =>
      ((s.takeOrder e (s.withRecords o)).settle [.request c], .accepted, sweepBody (s.firstSweep (s.withRecords o)))

/-- R153. -/
def takeNewOrder (c : Crane) (o : Order) (inRange : Bool) (s : State) : Reply :=
  match s.newOrderCheck c o inRange with
  | some code => s.reply code
  | none =>
    match s.freeEntry with
    | some e => s.placeOrder c e o
    | none => s.reply .full

/-- R153: the numbers of a MOVE are checked before its tag. -/
def takeMove (tag : Nat) (source : PlaceArg) (count : Nat) (dest : PlaceArg) (c : Crane) (s : State) : Reply :=
  match placeOfArg source, placeOfArg dest with
  | some p, some d =>
    takeNewOrder c (newOrder c tag .move (some p) count (.place d)) (within 1 255 tag && within 1 4 count) s
  | _, _ => s.reply .range

def execMove (r : Req) (source : PlaceArg) (count : Nat) (dest : PlaceArg) (s : State) :
    Host.Outcome State Fault Refusal :=
  takeRequest r .move s fun s => s.withCrane r.link fun c => takeMove r.tag source count dest c s

def takeSkeleton (tag bed st : Nat) (c : Crane) (s : State) : Reply :=
  match bedOf bed, stationOf st with
  | some b, some st =>
    takeNewOrder c (newOrder c tag .skeleton (some (.station b st)) 0 (.place .scrap)) (within 1 255 tag) s
  | _, _ => s.reply .range

def execSkeleton (r : Req) (bed st : Nat) (s : State) : Host.Outcome State Fault Refusal :=
  takeRequest r .skeleton s fun s => s.withCrane r.link fun c => takeSkeleton r.tag bed st c s

def takeTravel (tag : Nat) (x : Int) (c : Crane) (s : State) : Reply :=
  takeNewOrder c (newOrder c tag .travel none 0 (.x x)) (within 1 255 tag) s

def execTravel (r : Req) (x : Int) (s : State) : Host.Outcome State Fault Refusal :=
  takeRequest r .travel s fun s => s.withCrane r.link fun c => takeTravel r.tag x c s

/-! ### AT -/

/-- R182: an AT, or an accepted PICKED, resets the age of an order in PICKUP or CARRY. -/
def Order.progressed (o : Order) : Order :=
  if o.stage = .pickup ∨ o.stage = .carry then { o with timer := some freshTimer } else o

/-- R141, for the order at entry e that holds a granted span (log 32). DESIGN CHOICE (log 33): of the notices of a CORRIDOR breach,
BREACH goes before ORDER HALTED. -/
def State.corridorReport (s : State) (c : Crane) (e : Nat) (o : Order) (x : Nat) : State :=
  let s' := s.modOrder e Order.progressed
  match o.sweep with
  | some w =>
    if w.corridor.contains x || (s.runway.get c).breach.isSome then s'
    else (s'.breachNow c .corridor x (some (o.tag, w.corridor))).settle [.fault e .breach]
  | none => s'

/-- R140: the table of idle reports, with the tasks that follow. -/
def State.idleReport (s : State) (c : Crane) (x : Nat) : State × List Task :=
  let a := s.extentInterval c x
  if (s.runway.get c).breach.isSome then (s, [.position c])
  else if s.hitsOther c a then
    (s.breachNow c (if (s.runway.get c).span.isNone then .first else .idle) x none, [.position c])
  else (s.setSpan c (some ⟨.rest, a⟩), [.position c, .examine c, .examine c.other])

/-- R139 to R141, for a clamped position. -/
def State.report (s : State) (c : Crane) (x : Nat) : State :=
  let s' := s.modRunway c fun r => { r with lastX := some x }
  match s'.grantedOrder c with
  | some (e, o) => s'.corridorReport c e o x
  | none => settled (s'.idleReport c x)

/-- R139. -/
def takeAt (x : Int) (c : Crane) (s : State) : Reply :=
  let x' := clamp s.committed.runway x
  let s' := s.report c x'
  (s', .ok, .position x' (s'.runway.get c).span (s'.runway.get c).breach.isSome)

def execAt (r : Req) (x : Int) (s : State) : Host.Outcome State Fault Refusal :=
  takeRequest r .at_ s fun s => s.withCrane r.link fun c => takeAt x c s

/-! ### HALT and RESUME -/

/-- The tag names the crane's active order; otherwise STATE. -/
def State.withActive (s : State) (c : Crane) (tag : Nat) (f : Nat → Order → Reply) : Reply :=
  match s.activeOrder c with
  | some (e, o) => if o.tag = tag then f e o else s.reply .state
  | none => s.reply .state

def State.causesAt (s : State) (e : Nat) : CauseSet := ((s.orderAt e).map (·.causes)).getD noCauses

/-- R164. -/
def takeHalt (tag : Nat) (c : Crane) (s : State) : Reply :=
  s.withActive c tag fun e o =>
    match o.stage with
    | .pickup | .carry | .halted =>
      let s' := s.addOutside e .operator
      (s', .ok, .causes (s'.causesAt e))
    | _ => s.reply .state

def execHalt (r : Req) (order : Nat) (s : State) : Host.Outcome State Fault Refusal :=
  takeRequest r .halt s fun s => s.withCrane r.link fun c => takeHalt order c s

/-- R165: a return to RESERVING computes the span afresh if the order gave up its request. -/
def State.resumeReserving (s : State) (e : Nat) (o : Order) : State :=
  if o.spanHeld then (s.enterStage e .reserving).settle [.settleOrder o.crane]
  else
    ((s.enterStage e .reserving).modOrder e fun o => { o with sweep := s.firstSweep o }).settle [.request o.crane]

/-- R165; the answer names the remembered stage. No ORDER HALTED is sent for the causes removed (DESIGN CHOICE, log 16). -/
def takeResume (tag : Nat) (c : Crane) (s : State) : Reply :=
  s.withActive c tag fun e o =>
    if o.stage ≠ .halted then s.reply .state
    else if o.causes.blocksResume then (s, .cause, .causes o.causes)
    else
      match o.remembered with
      | .reserving => (s.resumeReserving e o, .ok, .stage .reserving)
      | .pickup => (s.enterStage e .pickup, .ok, .stage .pickup)
      | .carry => (s.enterStage e .carry, .ok, .stage .carry)

def execResume (r : Req) (order : Nat) (s : State) : Host.Outcome State Fault Refusal :=
  takeRequest r .resume s fun s => s.withCrane r.link fun c => takeResume order c s

/-! ### REDIRECT -/

/-- The stage an order has, or returns to after a REDIRECT's wait, if it may be redirected: whether it is HALTED, and the
stage PICKUP or CARRY it is in or remembers (R166). -/
def Order.returnStage (o : Order) : Option (Bool × Phase) :=
  match o.stage with
  | .pickup => some (false, .pickup)
  | .carry => some (false, .carry)
  | .halted => if o.remembered = .reserving then none else some (true, o.remembered)
  | .reserving => o.redirect.map fun r => (r.haltedReturn, o.remembered)
  | .queued => none

/-- Check 3 of R166. -/
def State.redirectPlace (s : State) (o : Order) (d : Place) (atSource : Bool) : Bool :=
  (if o.kind = .skeleton then d = .scrap else d.mayBeDest) && s.committed.exists_ d && !(atSource && o.source = some d)

/-- The records a REDIRECT moves room for: those on the hook, else those the order has booked (R166). -/
def State.redirectRecords (s : State) (o : Order) : List Handle :=
  if s.hookLoaded o.crane then s.hook o.crane else o.records

/-- Check 4 of R166. -/
def State.redirectRoom (s : State) (o : Order) (d : Place) : Bool :=
  match d with
  | .scrap => true
  | _ =>
    s.hasRoom d (s.redirectRecords o).length (s.thickness (s.redirectRecords o))
        (if o.dest = .place d then some o.ref else none) &&
      !s.closedTo d (some o.ref)

/-- The inbound booking on the new destination (R37). -/
def State.redirectInbound (s : State) (o : Order) (d : Place) : Option Inbound :=
  match d with
  | .stack _ | .station _ _ => some ⟨d, (s.redirectRecords o).length, s.thickness (s.redirectRecords o)⟩
  | _ => none

/-- The order after an accepted REDIRECT. A wait it gives up restores the figures from before that wait (R157, R166). DESIGN
CHOICE (log 16): the MISPLACED that a REDIRECT removes from a HALTED order sends no ORDER HALTED, since the order leaves HALTED
for RESERVING in the same request; R163 and R166 do not say whether that removal is a change that is reported. -/
def State.redirected (s : State) (o : Order) (d : Place) (halted : Bool) (phase : Phase) : Order :=
  { o with
    dest := .place d
    inbound := s.redirectInbound o d
    stage := .reserving
    timer := some freshTimer
    causes := o.causes.drop .misplaced
    remembered := phase
    sweep := match o.redirect with
      | some r => if r.cleared then r.before else o.sweep
      | none => o.sweep
    redirect := some { haltedReturn := halted, before := none, cleared := false, joined := ⟨false, false⟩ } }

/-- The beds joined for a wait that is given up (R157). -/
def Order.joinedBeds (o : Order) : List Bed := allBeds.filter fun b => o.redirect.any fun r => r.joined.get b

/-- R166: effects. -/
def State.redirect (s : State) (e : Nat) (o : Order) (d : Place) (halted : Bool) (phase : Phase) : Reply :=
  let o' := s.redirected o d halted phase
  let w := s.redirectSweep o' (phase = .pickup)
  let asked := (s.setEntry e (some (.order o'))).modRunway o.crane fun r =>
    { r with request := w.map fun w => ⟨o.tag, w⟩ }
  (asked.settle (o.joinedBeds.map (fun b => .leave b (.order o.ref)) ++ [.examine o.crane]), .accepted, sweepBody w)

/-- R166; a destination whose numbers name no place is BAD_PLACE (log 24). -/
def takeRedirect (tag : Nat) (dest : PlaceArg) (c : Crane) (s : State) : Reply :=
  s.withActive c tag fun e o =>
    match (if o.kind = .travel then none else o.returnStage) with
    | none => s.reply .state
    | some (halted, phase) =>
      match placeOfArg dest with
      | none => s.reply .badPlace
      | some d =>
        if !s.redirectPlace o d (phase = .pickup) then s.reply .badPlace
        else if !s.redirectRoom o d then s.reply .noRoom
        else s.redirect e o d halted phase

def execRedirect (r : Req) (order : Nat) (dest : PlaceArg) (s : State) : Host.Outcome State Fault Refusal :=
  takeRequest r .redirect s fun s => s.withCrane r.link fun c => takeRedirect order dest c s

/-! ### ABANDON -/

/-- R169. Only an active order's load hangs on the hook. -/
def takeAbandon (tag : Nat) (c : Crane) (s : State) : Reply :=
  match s.findOrder ⟨c, tag⟩ with
  | none => s.reply .state
  | some (e, o) =>
    if o.stage ≠ .queued && s.hookLoaded c then s.reply .loaded
    else (s.settle [.endOrder e .abandoned none]).reply .ok

def execAbandon (r : Req) (order : Nat) (s : State) : Host.Outcome State Fault Refusal :=
  takeRequest r .abandon s fun s => s.withCrane r.link fun c => takeAbandon order c s

end Sys2Proof.Machine
end

