-- ==== Sys2Proof/Machine/Lifts.lean ====
section
/-! DEFINITION. The crane reports that move a load: PICKED (R158 to R160) and LANDED (R161, R162). -/

namespace Sys2Proof.Machine

open Sys2Proof

/-! ### PICKED -/

/-- Check 3 of R158 (log 14). -/
def Order.mayPick (o : Order) : Bool :=
  match o.stage with
  | .pickup => true
  | .halted => o.remembered = .pickup
  | .reserving => o.remembered = .pickup && o.redirect.any fun r => !r.haltedReturn
  | _ => false

/-- Check 4 of R158. -/
def Order.pickRange (o : Order) (n : Nat) : Bool := if o.kind = .skeleton then n = 0 else within 1 4 n

/-- Check 5 of R158. -/
def State.sourceLists (s : State) (o : Order) (n : Nat) : Bool :=
  match o.source with
  | some p => n ≤ (s.listAt p).length
  | none => n = 0

/-- R158: a valid PICKED moves the order on to CARRY; in a REDIRECT's wait it moves the return stage on and resets the age
(R168). -/
def Order.movedOn (o : Order) : Order :=
  match o.stage with
  | .pickup => { o with stage := .carry, timer := some freshTimer }
  | .reserving => { o with remembered := .carry, timer := some freshTimer }
  | _ => { o with remembered := .carry }

/-- The records of a lift leave their place for the hook, CARRIED and unbooked (R28, R30, R32, R57). -/
def State.lift (s : State) (p : Place) (n : Nat) (c : Crane) : State :=
  let hs := s.liftable p n
  let moved := (s.setListAt p (s.afterLift p n)).setHook c hs
  (hs.foldl (fun s h => s.modRecord h fun r => { r with custody := .carried c, booking := none }) moved).evalPermits

/-- The orders other than `self` that had booked one of the records; a lift ends them REFUSED(GONE) (R55). -/
def State.robbedOrders (s : State) (hs : List Handle) (self : OrderRef) : List Nat :=
  (s.orders.filter fun q =>
    q.2.ref ≠ self && hs.any fun h => (s.recordOf h).any fun r => r.booking = some q.2.ref).map (·.1)

/-- Whether the destination of an order has room for what hangs, its own booking left out (R37, R159). -/
def State.destRoom (s : State) (o : Order) (hs : List Handle) : Bool :=
  match o.dest with
  | .place p => s.hasRoom p hs.length (s.thickness hs) (some o.ref)
  | .x _ => true

/-- The inbound booking after a lift of the records (R37). -/
def State.liftInbound (s : State) (o : Order) (hs : List Handle) : Option Inbound :=
  if hs.length = o.count || (o.count < hs.length && !s.destRoom o hs) then o.inbound
  else o.inbound.map fun i => { i with count := hs.length, thickness := s.thickness hs }

/-- R135, R159: the causes a lift gives. -/
def State.liftCauses (s : State) (o : Order) (hs : List Handle) : CauseSet :=
  { noCauses with
    overload := (s.params o.crane).swl < s.hookLoad o.crane
    misplaced :=
      (o.sweep.any fun w => w.extent < s.hookExtent o.crane) || (o.count < hs.length && !s.destRoom o hs) }

/-- The order after a lift. -/
def State.lifted (s : State) (o : Order) (hs : List Handle) : Order :=
  { o.movedOn with
    records := hs
    left := o.records.drop hs.length
    extras := hs.drop o.count
    short := hs.length < o.count
    inbound := s.liftInbound o hs }

/-- R158, R159: a MOVE's PICKED(n). `s` before, the lifted records in hook order, the state after the lift. -/
def State.pickPlates (s : State) (e : Nat) (o : Order) (p : Place) (n : Nat) : State :=
  let hs := s.liftable p n
  let up := s.lift p n o.crane
  let moved := up.setEntry e (some (.order (up.lifted o hs)))
  let after := moved.settle ((s.robbedOrders (hs.drop o.count) o.ref).map (fun e => .endOrder e .refusedGone none) ++
    (o.records.drop n).map fun h => .unbook h o.ref)
  after.settle [.burden e (up.liftCauses o hs)]

/-- R160: the station's flag is cleared and its skeleton mass hangs on the hook. -/
def State.pickSkeleton (s : State) (e : Nat) (o : Order) (b : Bed) (st : Station) : State :=
  let mass := (s.station b st).skeletonMass
  let up := (s.setStation b st { s.station b st with skeleton := false, skeletonMass := 0 }).setEntry e
    (some (.order { o.movedOn with skeleton := .onHook mass }))
  up.settle [.burden e (up.liftCauses o [])]

/-- What a PICKED brings about, by the kind of the order. -/
def State.pick (s : State) (e : Nat) (o : Order) (n : Nat) : State :=
  match o.kind, o.source with
  | .skeleton, some (.station b st) => s.pickSkeleton e o b st
  | _, some p => s.pickPlates e o p n
  | _, none => s

/-- R158. -/
def takePicked (tag n : Nat) (c : Crane) (s : State) : Reply :=
  s.withActive c tag fun e o =>
    if !o.mayPick then s.reply .state
    else if !o.pickRange n then s.reply .range
    else if !s.sourceLists o n then s.reply .notTop
    else
      let s' := s.pick e o n
      (s', .ok, .picked (s'.hook c) ((s'.hook c).drop o.count) (s'.hookLoad c) (s'.causesAt e))

def execPicked (r : Req) (order count : Nat) (s : State) : Host.Outcome State Fault Refusal :=
  takeRequest r .picked s fun s => s.withCrane r.link fun c => takePicked order count c s

/-! ### LANDED -/

/-- Check 3 of R161. -/
def State.mayLand (s : State) (o : Order) : Bool :=
  if o.kind = .travel then o.stage = .carry || (o.stage = .halted && o.remembered = .carry)
  else s.hookLoaded o.crane && (o.stage = .carry || o.stage = .halted || o.stage = .reserving)

/-- The condition of a landing at the destination (R162). -/
def Order.landedCondition (o : Order) (p : Place) : EndCondition :=
  if o.dest = .place p then (if o.short then .short else .done) else .misplaced

/-- Whether a place takes the load of an order (R162): the destination by room alone, another place by room and openness. -/
def State.takesLoad (s : State) (o : Order) (p : Place) : Bool :=
  match p with
  | .scrap => true
  | .stack _ | .station _ _ =>
    o.skeleton = .none && s.hasRoom p (s.hook o.crane).length (s.thickness (s.hook o.crane)) (some o.ref) &&
      (o.dest = .place p || !s.closedTo p (some o.ref))
  | _ => false

/-- R33, R4: one record landed at SCRAP. DESIGN CHOICE (log 33): its RETIRED notice goes before the end of the order in its wait
slot, and that end with all it sets off goes before the next hook record is freed; R4, R33, R59 and R60 give no order. -/
def State.scrapRecord (s : State) (h : Handle) : State :=
  (((s.free h).notify .office (.retired h (((s.recordOf h).map (·.heat)).getD []) .scrapped)).settle
    (s.waiterTasks h))

/-- The load is set down: added in hook order and at REST with its wait slots served, or retired at SCRAP (R29, R30, R33,
R60); the order's inbound booking goes as the records are added (R37). DESIGN CHOICE (log 33): at SCRAP, where nothing is
added, an inbound booking elsewhere stands until the landing order's end, after the orders that waited for its records. -/
def State.setDown (s : State) (e : Nat) (o : Order) (p : Place) : State :=
  let hs := s.hook o.crane
  match p with
  | .scrap => hs.foldl State.scrapRecord (s.modOrder e fun o => { o with skeleton := .none })
  | _ =>
    let added := ((s.modOrder e fun o => { o with inbound := none }).setListAt p (s.listAt p ++ hs)).setHook o.crane []
    (hs.foldl (fun s h => s.setCustody h .rest) added).evalPermits.settle (hs.map .serve)

/-- R162, with the decoded place. DESIGN CHOICE (log 33): the orders that wait for the landed records are served, with all that
sets off, before the landing order ends, so that its ORDER END goes behind theirs (R59, R162, R170). -/
def State.land (s : State) (e : Nat) (o : Order) (place : Option Place) : Reply :=
  match place.filter (s.takesLoad o) with
  | some p =>
    let condition := o.landedCondition p
    ((s.setDown e o p).settle [.endOrder e condition (some p)], .ok,
      .landed (some p) (s.hook o.crane) (.ended condition))
  | none =>
    let s' := s.settle [.burden e (CauseSet.only .misplaced)]
    (s', .ok, .landed place [] (.halted (s'.causesAt e)))

/-- R161: the landing is an AT first; a TRAVEL ends DONE. -/
def takeLanded (tag : Nat) (x y : Int) (c : Crane) (s : State) : Reply :=
  s.withActive c tag fun e o =>
    if !s.mayLand o then s.reply .state
    else
      let x' := clamp s.committed.runway x
      let s' := s.report c x'
      if o.kind = .travel then
        (s'.settle [.endOrder e .done none], .ok, .landed none [] (.ended .done))
      else
        match s'.orderAt e with
        | some o' => s'.land e o' (s'.committed.placeAt x' y)
        | none => s'.reply .ok

def execLanded (r : Req) (order : Nat) (x y : Int) (s : State) : Host.Outcome State Fault Refusal :=
  takeRequest r .landed s fun s => s.withCrane r.link fun c => takeLanded order x y c s

end Sys2Proof.Machine
end

