-- ==== Sys2Proof/Machine/Time.lean ====
section
/-! DEFINITION. What happens when no command waits: an owed START, or the passing of one millisecond with the timed events that
fall on it (R88, R179, R181, R190, R102; log 1, log 3, log 6). -/

namespace Sys2Proof.Machine

open Sys2Proof

def allLinks : List Link := [.office, .bed .one, .bed .two, .crane .one, .crane .two]

def allClassNames : List TimeoutClass := [.answer, .wait, .travel]

/-- The expiry command of an entry that meets its class's tick at age 2. -/
def State.expiryOf (s : State) (e : Nat) : Option Instr :=
  if (s.expiring e).isNone then none
  else
    match bedOfEntry e with
    | some b =>
      match (s.quiesce.get b).state with
      | .stopping => some (.stoppingExpiry b)
      | _ => some (.parkingExpiry b)
    | none => if (s.orderAt e).isSome then some (.orderExpiry e) else some (.recallExpiry e)

/-- The expiries of the present millisecond, in entry order (R175, R181). -/
def State.expiries (s : State) : List Instr := entryNumbers.filterMap s.expiryOf

/-- The START that follows an answered RESTART, with the input levels as they stand (R198). -/
def State.owedStart (s : State) : List Instr :=
  [.start s.eStop (s.arcOn .one) (s.arcOn .two)]

/-- R102: a flashing line meets a 500 ms boundary. -/
def State.flashDue (s : State) : Bool :=
  s.hallTime.toNat % 500 = 0 && s.part = .run && allBeds.any fun b => s.beaconLook b = .flashing

/-- The timed events of the present millisecond: the ticks of the entries that expire, each an event of its own (R181), then the
class ticks, silence and the beacon boundary. -/
def State.timedEvents (s : State) : List Instr :=
  s.expiries ++ (allClassNames.filter fun k => s.hallTime = s.nextTick.get k).map .classTick ++
    (allLinks.filter s.silent).map .silenceExpiry ++ (if s.flashDue then [.beaconFlashBoundary] else [])

/-- One millisecond passes (R88). -/
def State.advance (s : State) : State :=
  let later := { s with hallTime := s.hallTime + 1 }
  { later with pending := later.timedEvents }

/-- The step on an empty queue. -/
def State.idle (s : State) : State := if s.restartOwed then { s with pending := s.owedStart } else s.advance

end Sys2Proof.Machine
end

