-- ==== Sys2Proof/Machine/Dispatch.lean ====
section
/-! DEFINITION. One arm per command: its meaning. -/

namespace Sys2Proof.Machine

open Sys2Proof

def exec (i : Instr) (s : State) : Host.Outcome State Fault Refusal :=
  match i with
  | .start eStop arcOne arcTwo => Sys2Proof.Machine.execStart eStop arcOne arcTwo s
  | .frameDiscarded link bytes => Sys2Proof.Machine.execFrameDiscarded link bytes s
  | .noticeSent link => Sys2Proof.Machine.execNoticeSent link s
  | .silenceExpiry link => Sys2Proof.Machine.execSilenceExpiry link s
  | .eStopAsserted => Sys2Proof.Machine.execEStopAsserted s
  | .eStopReleased => Sys2Proof.Machine.execEStopReleased s
  | .arcSenseRisingEdge bed => Sys2Proof.Machine.execArcSenseRisingEdge bed s
  | .arcSenseFallingEdge bed => Sys2Proof.Machine.execArcSenseFallingEdge bed s
  | .beaconFlashBoundary => Sys2Proof.Machine.execBeaconFlashBoundary s
  | .classTick cls => Sys2Proof.Machine.execClassTick cls s
  | .orderExpiry entry => Sys2Proof.Machine.execOrderExpiry entry s
  | .recallExpiry entry => Sys2Proof.Machine.execRecallExpiry entry s
  | .stoppingExpiry bed => Sys2Proof.Machine.execStoppingExpiry bed s
  | .parkingExpiry bed => Sys2Proof.Machine.execParkingExpiry bed s
  | .hello req role mask => Sys2Proof.Machine.execHello req role mask s
  | .status req => Sys2Proof.Machine.execStatus req s
  | .queryRecord req query gen => Sys2Proof.Machine.execQueryRecord req query gen s
  | .queryStack req stack => Sys2Proof.Machine.execQueryStack req stack s
  | .queryStation req bed st => Sys2Proof.Machine.execQueryStation req bed st s
  | .queryOrder req link tag => Sys2Proof.Machine.execQueryOrder req link tag s
  | .queryCrane req crane => Sys2Proof.Machine.execQueryCrane req crane s
  | .queryBed req bed => Sys2Proof.Machine.execQueryBed req bed s
  | .register req grade heat length width thickness => Sys2Proof.Machine.execRegister req grade heat length width thickness s
  | .edit req h fields => Sys2Proof.Machine.execEdit req h fields s
  | .retire req h cause => Sys2Proof.Machine.execRetire req h cause s
  | .quarantineSet req h => Sys2Proof.Machine.execQuarantineSet req h s
  | .quarantineClear req h => Sys2Proof.Machine.execQuarantineClear req h s
  | .recall req h => Sys2Proof.Machine.execRecall req h s
  | .waiveMark req h part => Sys2Proof.Machine.execWaiveMark req h part s
  | .hallHold req => Sys2Proof.Machine.execHallHold req s
  | .hallRelease req => Sys2Proof.Machine.execHallRelease req s
  | .clearFault req bed => Sys2Proof.Machine.execClearFault req bed s
  | .clearBreach req crane => Sys2Proof.Machine.execClearBreach req crane s
  | .configBegin req => Sys2Proof.Machine.execConfigBegin req s
  | .configWriteZone req index zone => Sys2Proof.Machine.execConfigWriteZone req index zone s
  | .configWriteStack req index stack => Sys2Proof.Machine.execConfigWriteStack req index stack s
  | .configWriteStationCentre req bed st x y => Sys2Proof.Machine.execConfigWriteStationCentre req bed st x y s
  | .configWriteGrade req index grade => Sys2Proof.Machine.execConfigWriteGrade req index grade s
  | .configWriteInfeedCentre req x y => Sys2Proof.Machine.execConfigWriteInfeedCentre req x y s
  | .configWriteScrapCentre req x y => Sys2Proof.Machine.execConfigWriteScrapCentre req x y s
  | .configWriteCraneParameter req crane param value => Sys2Proof.Machine.execConfigWriteCraneParameter req crane param value s
  | .configWriteRunwayLength req value => Sys2Proof.Machine.execConfigWriteRunwayLength req value s
  | .configWriteTimeoutPeriod req cls value => Sys2Proof.Machine.execConfigWriteTimeoutPeriod req cls value s
  | .configWriteConsumableSetting req bed item value => Sys2Proof.Machine.execConfigWriteConsumableSetting req bed item value s
  | .configWriteBeaconSetting req bed setting => Sys2Proof.Machine.execConfigWriteBeaconSetting req bed setting s
  | .configWriteMinimumRemnant req item value => Sys2Proof.Machine.execConfigWriteMinimumRemnant req item value s
  | .configWriteSilenceLimit req value => Sys2Proof.Machine.execConfigWriteSilenceLimit req value s
  | .configEnd req => Sys2Proof.Machine.execConfigEnd req s
  | .restart req => Sys2Proof.Machine.execRestart req s
  | .erase req => Sys2Proof.Machine.execErase req s
  | .selectStation req st => Sys2Proof.Machine.execSelectStation req st s
  | .claim req h nest => Sys2Proof.Machine.execClaim req h nest s
  | .nextMark req => Sys2Proof.Machine.execNextMark req s
  | .marked req part => Sys2Proof.Machine.execMarked req part s
  | .markFailed req part => Sys2Proof.Machine.execMarkFailed req part s
  | .cutDone req part => Sys2Proof.Machine.execCutDone req part s
  | .return_ req h result => Sys2Proof.Machine.execReturn req h result s
  | .release req h => Sys2Proof.Machine.execRelease req h s
  | .contourDone req session => Sys2Proof.Machine.execContourDone req session s
  | .parked req session => Sys2Proof.Machine.execParked req session s
  | .yield req h => Sys2Proof.Machine.execYield req h s
  | .refuse req h => Sys2Proof.Machine.execRefuse req h s
  | .consumablesChanged req => Sys2Proof.Machine.execConsumablesChanged req s
  | .move req source count dest => Sys2Proof.Machine.execMove req source count dest s
  | .skeleton req bed st => Sys2Proof.Machine.execSkeleton req bed st s
  | .travel req x => Sys2Proof.Machine.execTravel req x s
  | .at_ req x => Sys2Proof.Machine.execAt req x s
  | .picked req order count => Sys2Proof.Machine.execPicked req order count s
  | .landed req order x y => Sys2Proof.Machine.execLanded req order x y s
  | .halt req order => Sys2Proof.Machine.execHalt req order s
  | .resume req order => Sys2Proof.Machine.execResume req order s
  | .redirect req order dest => Sys2Proof.Machine.execRedirect req order dest s
  | .abandon req order => Sys2Proof.Machine.execAbandon req order s
  | .unknownRequestKind req kind => Sys2Proof.Machine.execUnknownRequestKind req kind s

end Sys2Proof.Machine
end

