-- ==== Sys2Proof/Safety.lean ====
section
/-! DEFINITION. The terms the statements speak in: a request the part is ready to take, the state a request leaves beside its
own effect, which commands are requests, and what counts as a sound state of the hall: lines that follow their conditions,
spans apart, counts within their bounds, and every record in one place. -/

namespace Sys2Proof.Machine

open Sys2Proof

/-! ### Requests -/

/-- A request on link l passes the checks of R188 that do not depend on its kind: the link is UP, the status byte is 0, the
body has its form, and the part is in state p. -/
abbrev State.ready (s : State) (r : Req) (l : Link) (p : PartState) : Prop :=
  r.link = l ∧ s.linkUp l = true ∧ r.status = 0 ∧ r.fits = true ∧ s.part = p

/-- The link table once a request on l has been received (R187). -/
def State.heard (s : State) (l : Link) : PerLink LinkState :=
  s.links.set l { s.links.get l with lastFrame := some s.hallTime, received := afterFrame (s.links.get l).received }

/-- The state a request leaves when it changes nothing: the frame was received and the answer is out (R187, R188). -/
def State.after (s : State) (r : Req) (k : RequestKind) (code : Status) (body : AnswerBody) : State :=
  { s with
    links := s.heard r.link
    txAnswer := some { link := r.link, kind := k, tag := r.tag, status := code, body := body }
    txNotice := none }

/-- The request a command is, with its kind; none for an event. -/
def requestOf : Instr → Option (Req × RequestKind)
  | .start _ _ _ | .frameDiscarded _ _ | .noticeSent _ | .silenceExpiry _ | .eStopAsserted | .eStopReleased
  | .arcSenseRisingEdge _ | .arcSenseFallingEdge _ | .beaconFlashBoundary | .classTick _ | .orderExpiry _
  | .recallExpiry _ | .stoppingExpiry _ | .parkingExpiry _ => none
  | .hello r _ _ => some (r, .hello)
  | .status r => some (r, .status)
  | .queryRecord r _ _ | .queryStack r _ | .queryStation r _ _ | .queryOrder r _ _ | .queryCrane r _ | .queryBed r _ =>
    some (r, .query)
  | .register r _ _ _ _ _ => some (r, .register)
  | .edit r _ _ => some (r, .edit)
  | .retire r _ _ => some (r, .retire)
  | .quarantineSet r _ => some (r, .quarantineSet)
  | .quarantineClear r _ => some (r, .quarantineClear)
  | .recall r _ => some (r, .recall)
  | .waiveMark r _ _ => some (r, .waiveMark)
  | .hallHold r => some (r, .hallHold)
  | .hallRelease r => some (r, .hallRelease)
  | .clearFault r _ => some (r, .clearFault)
  | .clearBreach r _ => some (r, .clearBreach)
  | .configBegin r => some (r, .configBegin)
  | .configWriteZone r _ _ | .configWriteStack r _ _ | .configWriteStationCentre r _ _ _ _ | .configWriteGrade r _ _
  | .configWriteInfeedCentre r _ _ | .configWriteScrapCentre r _ _ | .configWriteCraneParameter r _ _ _
  | .configWriteRunwayLength r _ | .configWriteTimeoutPeriod r _ _ | .configWriteConsumableSetting r _ _ _
  | .configWriteBeaconSetting r _ _ | .configWriteMinimumRemnant r _ _ | .configWriteSilenceLimit r _ =>
    some (r, .configWrite)
  | .configEnd r => some (r, .configEnd)
  | .restart r => some (r, .restart)
  | .erase r => some (r, .erase)
  | .selectStation r _ => some (r, .selectStation)
  | .claim r _ _ => some (r, .claim)
  | .nextMark r => some (r, .nextMark)
  | .marked r _ => some (r, .marked)
  | .markFailed r _ => some (r, .markFailed)
  | .cutDone r _ => some (r, .cutDone)
  | .return_ r _ _ => some (r, .return_)
  | .release r _ => some (r, .release)
  | .contourDone r _ => some (r, .contourDone)
  | .parked r _ => some (r, .parked)
  | .yield r _ => some (r, .yield)
  | .refuse r _ => some (r, .refuse)
  | .consumablesChanged r => some (r, .consumablesChanged)
  | .move r _ _ _ => some (r, .move)
  | .skeleton r _ _ => some (r, .skeleton)
  | .travel r _ => some (r, .travel)
  | .at_ r _ => some (r, .at_)
  | .picked r _ _ => some (r, .picked)
  | .landed r _ _ _ => some (r, .landed)
  | .halt r _ => some (r, .halt)
  | .resume r _ => some (r, .resume)
  | .redirect r _ _ => some (r, .redirect)
  | .abandon r _ => some (r, .abandon)
  | .unknownRequestKind r kind => some (r, .unknown kind)

/-- The handle a request names, if it names one (R2). -/
def handleOf : Instr → Option Handle
  | .edit _ h _ | .retire _ h _ | .quarantineSet _ h | .quarantineClear _ h | .waiveMark _ h _ | .claim _ h _
  | .release _ h | .yield _ h | .refuse _ h => some h
  | _ => none

/-- The bytes begin with a whole valid frame (R186, R187). -/
def BeginsFrame (bytes : List Byte) : Prop :=
  ∃ b, bytes = 0xA5#8 :: b ∧ 2 ≤ b.length ∧ valueOf (b.take 2) ≤ 1600 ∧ valueOf (b.take 2) + 7 ≤ b.length ∧
    valueOf ((b.drop (valueOf (b.take 2) + 5)).take 2) = (crc16 (b.take (valueOf (b.take 2) + 5))).toNat

/-- So many valid frames are found among the bytes by the hunt of R187: a byte outside a frame, and a start byte whose length exceeds
1,600 or whose CRC does not match, is passed over; an incomplete frame ends the hunt; behind a valid frame it goes on. -/
inductive HoldsFrames : List Byte → Nat → Prop where
  | nothing : HoldsFrames [] 0
  | passed (x : Byte) (b : List Byte) (n : Nat) :
      (x ≠ 0xA5#8 ∨ (2 ≤ b.length ∧ 1600 < valueOf (b.take 2)) ∨
        (valueOf (b.take 2) + 7 ≤ b.length ∧ 2 ≤ b.length ∧
          valueOf ((b.drop (valueOf (b.take 2) + 5)).take 2) ≠ (crc16 (b.take (valueOf (b.take 2) + 5))).toNat)) →
      HoldsFrames b n → HoldsFrames (x :: b) n
  | incomplete (b : List Byte) :
      b.length < 2 ∨ (valueOf (b.take 2) ≤ 1600 ∧ b.length < valueOf (b.take 2) + 7) → HoldsFrames (0xA5#8 :: b) 0
  | frame (b : List Byte) (n : Nat) :
      BeginsFrame (0xA5#8 :: b) → HoldsFrames (b.drop (valueOf (b.take 2) + 7)) n → HoldsFrames (0xA5#8 :: b) (n + 1)

/-- Entry e (0 and 1 the beds, 2 to 7 shared) is timed in class k and stands at age 2 while a tick of k is at hand that has not
examined it (R175, R180, R181; log 3). -/
def AtItsTick (s : State) (e : Nat) (k : TimeoutClass) : Prop :=
  s.hallTime = s.nextTick.get k ∧ e ∉ s.ticked.get k ∧
    ((∃ b m, e = b.number - 1 ∧ k = .answer ∧ ((s.quiesce.get b).state = .stopping ∨ (s.quiesce.get b).state = .parking) ∧
        (s.quiesce.get b).timer = some m ∧ 2 ≤ m.age) ∨
      (∃ o m, s.orderAt e = some o ∧ o.timer = some m ∧ 2 ≤ m.age ∧
        ((k = .wait ∧ o.stage = .reserving) ∨ (k = .travel ∧ (o.stage = .pickup ∨ o.stage = .carry)))) ∨
      ∃ c, s.entry e = some (.recall c) ∧ k = .answer ∧ 2 ≤ c.timer.age)

/-- State t is s once a tick of class k has moved the ages of the entries it still examines, and the class's next tick falls one
period later (R179, R181). -/
def AgedBy (k : TimeoutClass) (s t : State) : Prop :=
  t.nextTick = s.nextTick.set k (s.nextTick.get k + BitVec.ofNat 32 (s.committed.periods.get k)) ∧
  t.ticked = s.ticked.set k [] ∧
  (∀ e o, s.orderAt e = some o → t.orderAt e = some { o with
    timer := if e ∉ s.ticked.get k ∧
        ((k = .wait ∧ o.stage = .reserving) ∨ (k = .travel ∧ (o.stage = .pickup ∨ o.stage = .carry))) then
      o.timer.map fun q => if q.age < 2 then { age := q.age + 1 } else q
      else o.timer }) ∧
  (∀ e c, s.entry e = some (.recall c) → t.entry e = some (.recall { c with
    timer := if e ∉ s.ticked.get k ∧ k = .answer ∧ c.timer.age < 2 then { age := c.timer.age + 1 } else c.timer })) ∧
  (∀ e g, s.entry e = some (.hold g) → t.entry e = some (.hold g)) ∧ (∀ e, s.entry e = none → t.entry e = none) ∧
  (∀ b, t.quiesce.get b = { s.quiesce.get b with
    timer := if b.number - 1 ∉ s.ticked.get k ∧ k = .answer ∧
        ((s.quiesce.get b).state = .stopping ∨ (s.quiesce.get b).state = .parking) then
      (s.quiesce.get b).timer.map fun q => if q.age < 2 then { age := q.age + 1 } else q
      else (s.quiesce.get b).timer }) ∧
  { t with nextTick := s.nextTick, ticked := s.ticked, shared := s.shared, quiesce := s.quiesce } = s

/-- The expiry command of the entry e as state s has it (R183). -/
def ExpiryOf (s : State) (e : Nat) (i : Instr) : Prop :=
  (i = .orderExpiry e ∧ (s.orderAt e).isSome = true) ∨ (i = .recallExpiry e ∧ ∃ c, s.entry e = some (.recall c)) ∨
    (∃ b, i = .stoppingExpiry b ∧ e = b.number - 1 ∧ (s.quiesce.get b).state = .stopping) ∨
    ∃ b, i = .parkingExpiry b ∧ e = b.number - 1 ∧ (s.quiesce.get b).state = .parking

/-- The active order at entry e is granted its span and waits in RESERVING for bed b alone: b names it as a holder, and the other
bed, if the order holds it or its span lies over it, is QUIESCED for it (R106, R108, R156). -/
def WaitsOnlyFor (s : State) (b : Bed) (e : Nat) (o : Order) : Prop :=
  s.activeOrder o.crane = some (e, o) ∧ o.stage = .reserving ∧ o.redirect = none ∧ o.spanHeld = true ∧
    (s.quiesce.get b).holders.order.get o.crane = some o.tag ∧
    ((s.quiesce.get b.other).holders.order.get o.crane = some o.tag ∨
        (∃ w, o.sweep = some w ∧ s.bedUnder b.other w.span = true) →
      (s.quiesce.get b.other).holders.order.get o.crane = some o.tag ∧ (s.quiesce.get b.other).state = .quiesced)

/-- The causes of the moment an order meets on leaving RESERVING (R156); OVERLOAD only for a MOVE with source HOOK (R129). -/
def State.causesOnLeaving (s : State) (o : Order) : CauseSet :=
  { noCauses with
    estop := s.eStop
    hallHold := s.hold.isSome
    link := !s.linkUp (.crane o.crane)
    overload := o.fromHook && (s.committed.cranes.get o.crane).swl < s.loadOf o }

/-- The stage an order leaves RESERVING for: CARRY without anything to pick up, else PICKUP (R156). -/
def Order.entryStage (o : Order) : Phase :=
  if o.kind = .travel ∨ o.fromHook = true then .carry else .pickup

/-- An order as it leaves RESERVING once everything is granted: in its stage with age 0, or HALTED at it while causes stand
(R156, R180). -/
def State.leftReserving (s : State) (o : Order) : Order :=
  if s.causesOnLeaving o = noCauses then
    { o with stage := if o.entryStage = .carry then .carry else .pickup, timer := some { age := 0 }, causes := noCauses }
  else { o with stage := .halted, remembered := o.entryStage, timer := none, causes := s.causesOnLeaving o }

/-- What recovery makes of a record (R16). -/
def RecoveredFrom (r r' : Record) : Prop :=
  r' = { r with
    booking := none
    waitSlot := none
    custody := match r.custody with
      | .carried c => .orphaned c
      | .orphaned c => .orphaned c
      | _ => .rest
    incomplete := r.incomplete || (match r.custody with | .worked _ => true | _ => false)
    quarantine := r.quarantine || (match r.custody with | .worked _ => true | _ => false) }

/-! ### The lines -/

/-- ARC PERMIT and MOTION ENABLE are asserted exactly while their conditions hold (R115, R148). -/
def LinesFollow (s : State) : Prop :=
  (∀ b, s.permit.get b = true ↔
    s.part = .run ∧ s.eStop = false ∧ s.linkUp (.bed b) = true ∧ (s.consumables.get b).state ≠ .hold ∧
      (s.arcs.get b).fault = none ∧ (∃ n, s.claims.get b = some n ∧ s.activeRecords b = [n.plate]) ∧
      ((s.quiesce.get b).state = .running ∨
        ((s.quiesce.get b).state = .stopping ∧ (s.quiesce.get b).allowance = true))) ∧
  (∀ c, s.motion.get c = true ↔
    s.part = .run ∧ s.linkUp (.crane c) = true ∧ s.eStop = false ∧ (s.runway.get c).breach = none ∧
      (∀ e g, s.entry e ≠ some (.hold g)) ∧ (s.runway.get c).span ≠ none ∧
      ∀ e o, s.orderAt e = some o → o.crane = c → o.causes.arcFault = false)

/-! ### The runway -/

/-- Two known spans share no point (R138). -/
def SpansApart (s : State) : Prop :=
  ∀ v w, s.runway.one.span = some v → s.runway.two.span = some w → v.range.overlaps w.range = false

/-! ### Quiesce sessions -/

/-- A session is open exactly while the holder set has a member (R107, R110), and its entry is timed exactly in STOPPING and
PARKING (R105). -/
def SessionsHeld (s : State) : Prop :=
  ∀ b, ((s.quiesce.get b).state = .running ↔ (s.quiesce.get b).holders = noHolders) ∧
    ((s.quiesce.get b).timer.isSome = true ↔
      ((s.quiesce.get b).state = .stopping ∨ (s.quiesce.get b).state = .parking))

/-! ### Bounds -/

/-- No age exceeds 2 (R181). -/
def Timer.young (t : Timer) : Prop := t.age ≤ 2

def Entry.young : Entry → Prop
  | .order o => ∀ t, o.timer = some t → t.young
  | .recall r => r.timer.young
  | .hold _ => True

/-- Every count and number within the bound its rule gives. -/
structure Bounded (s : State) : Prop where
  /-- R191; while the link is UP the oldest notice is under transmission. -/
  queues : ∀ l, (s.links.get l).queue.length ≤ 16 ∧ (s.links.get l).dropped ≤ 255 ∧
    (∀ g, (s.links.get l).sending = some g → g ≤ 255 ∧ (s.links.get l).queue ≠ []) ∧
    (s.linkUp l = true → (s.links.get l).queue ≠ [] → (s.links.get l).sending ≠ none)
  /-- R1, R3. -/
  generations : ∀ i, (s.slot i).gen ≤ 63
  /-- R91, R92. -/
  wear : ∀ b, (s.consumables.get b).pierces ≤ 65535 ∧ (s.consumables.get b).arcTime ≤ 4294967295 ∧
    (s.consumables.get b).misfires ≤ 255
  /-- R69. -/
  nests : ∀ b n, s.claims.get b = some n → n.pierces ≤ 65535 ∧ n.arcTime ≤ 4294967295
  /-- R105. -/
  sessions : ∀ b, (s.quiesce.get b).session ≤ 255
  /-- R181. -/
  sessionAges : ∀ b t, (s.quiesce.get b).timer = some t → t.young
  /-- R181. -/
  entryAges : ∀ e v, s.entry e = some v → v.young

/-! ### Places -/

/-- Every handle of every place list. -/
def State.listed (s : State) : List Handle :=
  s.infeed ++ s.hook .one ++ s.hook .two ++ (s.station .one .a).records ++ (s.station .one .b).records ++
    (s.station .two .a).records ++ (s.station .two .b).records ++ s.piles.toList.flatten

/-- Every live record stands in one place list, once, and nothing else stands in any (R26, R30, R32, R34, R42); and the lanes
of both configurations name stacks 0 to 47, so that every landing finds its list (R21). -/
structure Placed (s : State) : Prop where
  once : s.listed.Nodup
  live : ∀ h, h ∈ s.listed ↔ (s.recordOf h).isSome = true
  lanes : ∀ n, s.committed.inUse n = true ∨ s.staged.inUse n = true → n < 48

end Sys2Proof.Machine
end

