-- ==== Sys2Proof/Certificates/Slice0/Obligations.lean ====
section
/-! DEFINITION. The statements for the provers, each a proposition about the model; OBLIGATIONS.json says which rule of the
spec each one formalises. -/

open Sys2Proof Sys2Proof.Machine

/-! ### The queue and the passing of time -/

/-- A step of a state with command c at the front of its queue is exec of c on that state with the queue's rest. -/
def Obligations.FrontCommandRuns : Prop :=
  ∀ (s : State) (c : Instr) (rest : List Instr),
    step { s with pending := c :: rest } = exec c { s with pending := rest }

/-- An idle step, the model's choice throughout (logs 1, 3 and 6). One millisecond passes, and the queue then holds exactly the
timed events of the new millisecond: the expiries of the entries that meet their third tick, the class ticks, the silences and
the beacon's boundary, in this order. RESTART is answered OK and owes a START, which an idle step runs first, with the input
levels as they stand. -/
def Obligations.IdleStepsRunWhatIsOwed : Prop :=
  (∀ s u : State, s.pending = [] → s.restartOwed = false → u = { s with hallTime := s.hallTime + 1 } →
    ∃ expiries ticks quiet flash : List Instr,
      step s = .next { u with pending := expiries ++ ticks ++ quiet ++ flash } ∧
      (∀ i, i ∈ expiries ↔ (∃ e o k, i = .orderExpiry e ∧ s.orderAt e = some o ∧ AtItsTick u e k) ∨
        (∃ e c k, i = .recallExpiry e ∧ s.entry e = some (.recall c) ∧ AtItsTick u e k) ∨
        (∃ b k, i = .stoppingExpiry b ∧ (s.quiesce.get b).state = .stopping ∧ AtItsTick u (b.number - 1) k) ∨
        (∃ b k, i = .parkingExpiry b ∧ (s.quiesce.get b).state = .parking ∧ AtItsTick u (b.number - 1) k)) ∧
      (∀ i, i ∈ ticks ↔ ∃ k, i = .classTick k ∧ u.hallTime = s.nextTick.get k) ∧
      (∀ i, i ∈ quiet ↔ ∃ l f, i = .silenceExpiry l ∧ s.linkUp l = true ∧ (s.links.get l).lastFrame = some f ∧
        s.committed.silenceLimit < (u.hallTime - f).toNat) ∧
      flash = if u.hallTime.toNat % 500 = 0 ∧ s.part = .run ∧ (s.beaconLook .one = .flashing ∨ s.beaconLook .two = .flashing)
        then [.beaconFlashBoundary] else []) ∧
  (∀ s : State, s.pending = [] → s.restartOwed = true →
    step s = .next { s with
      pending := [.start s.eStop (s.arcs.get .one).rise.isSome (s.arcs.get .two).rise.isSome] }) ∧
  (∀ (s : State) (r : Req), s.ready r .office .run →
    exec (.restart r) s = .next { s.after r .restart .ok .empty with restartOwed := true })

/-! ### Requests in general -/

/-- The checks of R188 before a request reaches its owning block: the code of the first that fails is answered, and nothing
else changes than that the frame was received. A kind the table does not list is FORMAT whatever else holds. Then a handle out
of range is refused RANGE, and one that names no live record STALE and named, before the rules of the request itself. That STATE
goes before FORMAT for every kind, HALL HOLD too, is the model's reading of R188 beside R117 (log 34), and that the handle of a
YIELD or REFUSE is checked before LATE is its reading of R62 (log 17). -/
def Obligations.RequestChecksAnswerInOrder : Prop :=
  (∀ (s : State) (c : Instr) (r : Req) (k : RequestKind), requestOf c = some (r, k) →
    ((∃ code, k = .unknown code) → exec c s = .next (s.after r k .format .empty)) ∧
    ((∀ code, k ≠ .unknown code) → k.allowedOn r.link = false → exec c s = .next (s.after r k .role .empty)) ∧
    ((∀ code, k ≠ .unknown code) → k.allowedOn r.link = true → s.linkUp r.link = false → k ≠ .hello →
      exec c s = .next (s.after r k .link .empty)) ∧
    ((∀ code, k ≠ .unknown code) → k.allowedOn r.link = true → (s.linkUp r.link = true ∨ k = .hello) → r.status ≠ 0 →
      exec c s = .next (s.after r k .format .empty)) ∧
    ((∀ code, k ≠ .unknown code) → k.allowedOn r.link = true → (s.linkUp r.link = true ∨ k = .hello) → r.status = 0 →
      k.takenIn s.part = false → exec c s = .next (s.after r k .state .empty)) ∧
    ((∀ code, k ≠ .unknown code) → k.allowedOn r.link = true → (s.linkUp r.link = true ∨ k = .hello) → r.status = 0 →
      k.takenIn s.part = true → r.fits = false → exec c s = .next (s.after r k .format .empty))) ∧
  (∀ (s : State) (c : Instr) (r : Req) (k : RequestKind) (h : Handle),
    requestOf c = some (r, k) → handleOf c = some h →
    k.allowedOn r.link = true → s.linkUp r.link = true → r.status = 0 → s.part = .run → r.fits = true →
    (511 < h.index ∨ 63 < h.gen → exec c s = .next (s.after r k .range .empty)) ∧
    (h.index ≤ 511 → h.gen ≤ 63 → s.recordOf h = none → exec c s = .next (s.after r k .stale (.stale h))))

/-- Every request gets exactly one answer, with its own link, kind and tag, and one that is refused (a code of 7 or more)
changes nothing else than that its frame was received. -/
def Obligations.RefusedRequestsChangeNothing : Prop :=
  ∀ (s : State) (c : Instr) (r : Req) (k : RequestKind), requestOf c = some (r, k) →
    ∃ t code body, exec c s = .next t ∧
      t.txAnswer = some { link := r.link, kind := k, tag := r.tag, status := code, body := body } ∧
      (7 ≤ code.value → t = s.after r k code body)

/-! ### What every step keeps -/

/-- ARC PERMIT and MOTION ENABLE are asserted exactly while their conditions hold, after every step. MOTION ENABLE stays low also
for an order in a REDIRECT's wait whose return stage holds ARC_FAULT, by the model's reading of R148 (log 20). -/
def Obligations.LinesFollowTheirConditions : Prop :=
  ∀ s t : State, LinesFollow s → step s = .next t → LinesFollow t

/-- The law of the runway: no step lets two known crane spans share a point. -/
def Obligations.SpansStayApart : Prop :=
  ∀ s t : State, SpansApart s → step s = .next t → SpansApart t

/-- Every step keeps a session open exactly while its holder set has a member, timed exactly in STOPPING and PARKING. -/
def Obligations.SessionsStayHeld : Prop :=
  ∀ s t : State, SessionsHeld s → step s = .next t → SessionsHeld t

/-- Every step keeps the notice queues and dropped counts, generations, consumable and nest counts, session numbers and ages
within the bounds of their rules. -/
def Obligations.CountsStayBounded : Prop :=
  ∀ s t : State, Bounded s → step s = .next t → Bounded t

/-- Every step keeps every live record in exactly one place list and nothing else in any. A PICKED is left out where records
hang already: an order in PICKUP has an empty hook (a fact about runs). -/
def Obligations.EveryRecordStandsInOneList : Prop :=
  ∀ s t : State, Placed s →
    (∀ r tag n c, s.pending.head? = some (.picked r tag n) → r.link = .crane c → s.hook c = []) →
    step s = .next t → Placed t

/-- The state after reset: the first power-on has found an empty store and a configuration that is not valid, and START has
entered CONFIG with a START notice of empty lists waiting for the office. E-STOP released and both arcs off are the model's
choice (log 5). It meets the five invariants. -/
def Obligations.ResetIsASoundFirstPowerOn : Prop :=
  (LinesFollow State.reset ∧ SpansApart State.reset ∧ SessionsHeld State.reset ∧ Bounded State.reset ∧ Placed State.reset) ∧
  State.reset.part = .config ∧ State.reset.validMark = false ∧ State.reset.hallTime = 0 ∧ State.reset.mask = allClasses ∧
    (∀ k, State.reset.nextTick.get k = BitVec.ofNat 32 (State.reset.committed.periods.get k)) ∧
    (∀ i, State.reset.slot i = ⟨0, none⟩) ∧ (∀ p, State.reset.listAt p = []) ∧ (∀ e, State.reset.entry e = none) ∧
    (∀ l, State.reset.links.get l = { up := false, lastFrame := none, dropped := 0, sending := none, received := [], queue :=
      if l = .office then [.start [] [] []] else [] }) ∧
    (∀ b, State.reset.claims.get b = none ∧ State.reset.permit.get b = false ∧ State.reset.beacon.get b = false ∧
      State.reset.active.get b = .a ∧ (State.reset.quiesce.get b).state = .running ∧
      (State.reset.quiesce.get b).session = 0 ∧ (State.reset.quiesce.get b).holders = noHolders ∧
      State.reset.consumables.get b = { pierces := 0, arcTime := 0, misfires := 0, state := .ok } ∧
      ∀ st, (State.reset.station b st).skeleton = false) ∧
    (∀ c, State.reset.motion.get c = false ∧
      State.reset.runway.get c = { lastX := none, span := none, request := none, breach := none }) ∧
    State.reset.staged = State.reset.committed ∧ (∀ i, (State.reset.committed.zone i).valid = false) ∧
    (∀ g, State.reset.committed.grade g = { valid := false, name := [], density := 785 }) ∧
    (∀ c, (State.reset.committed.cranes.get c).swl = 0) ∧ State.reset.committed.minLength = 500 ∧
    State.reset.committed.minWidth = 300 ∧ State.reset.committed.silenceLimit = 1000 ∧
    State.reset.eStop = false ∧ ∀ b, State.reset.arcs.get b = { rise := none, fault := none }

/-- A breach latch is cleared by CLEAR BREACH of its crane or START alone, a fault latch by CLEAR FAULT of its bed or START
alone. A link goes UP by its own HELLO alone, and DOWN by its silence or by START alone. The committed configuration is written
by CONFIG END and ERASE alone, in CONFIG, and the part state by START, CONFIG BEGIN and CONFIG END alone. -/
def Obligations.LatchesLinksAndConfigurationChangeByTheirCommands : Prop :=
  (∀ (s t : State) (i : Instr), exec i s = .next t →
    (∀ c, (s.runway.get c).breach.isSome = true → (t.runway.get c).breach = none →
      (∃ r n, i = .clearBreach r n ∧ craneOf n = some c) ∨ ∃ e a b, i = .start e a b) ∧
    (∀ b, (s.arcs.get b).fault.isSome = true → (t.arcs.get b).fault = none →
      (∃ r n, i = .clearFault r n ∧ bedOf n = some b) ∨ ∃ e a b, i = .start e a b)) ∧
  (∀ (s t : State) (i : Instr) (l : Link), exec i s = .next t →
    (s.linkUp l = false → t.linkUp l = true → ∃ r m, i = .hello r (roleOf l) m ∧ r.link = l) ∧
    (s.linkUp l = true → t.linkUp l = false → i = .silenceExpiry l ∨ ∃ e a b, i = .start e a b)) ∧
  (∀ (s t : State) (i : Instr), exec i s = .next t →
    (t.committed ≠ s.committed → s.part = .config ∧ ((∃ r, i = .configEnd r) ∨ ∃ r, i = .erase r)) ∧
    (t.part ≠ s.part → (s.part = .run ∧ ∃ r, i = .configBegin r) ∨ (s.part = .config ∧ ∃ r, i = .configEnd r) ∨
      ∃ e a b, i = .start e a b))

/-! ### START -/

/-- START with both arcs off: the retained items stand, every record is recovered, every volatile item takes its value after
START, the START notice is placed, and the part enters RUN if the valid mark is set. The input levels a START finds: a
burning arc is an unpermitted edge at hall time 0, and E-STOP stands as found. Every ARC PERMIT and MOTION ENABLE is deasserted.
That the START carries the input levels, and that waiting commands stay behind it, is the model's choice (log 4). -/
def Obligations.StartRecoversTheHall : Prop :=
  (∀ s : State, ∃ t, exec (.start false false false) s = .next t ∧
    t.part = (if s.validMark then .run else .config) ∧ t.restartOwed = false ∧ t.hallTime = 0 ∧ t.eStop = false ∧
    (∀ k, t.nextTick.get k = BitVec.ofNat 32 (s.committed.periods.get k)) ∧
    (∀ l, t.links.get l =
      { up := false, lastFrame := none, dropped := 0, sending := none, received := [],
        queue := if l = .office then
          [.start ((s.hook .one).filter fun h => (s.custodyOf h).any fun k => k = .carried .one || k = .orphaned .one)
            ((s.hook .two).filter fun h => (s.custodyOf h).any fun k => k = .carried .two || k = .orphaned .two)
            (s.handlesWhere fun r => r.incomplete || match r.custody with | .worked _ => true | _ => false)] else [] }) ∧
    t.mask = allClasses ∧ t.staged = s.committed ∧
    (∀ i, (t.slot i).gen = (s.slot i).gen) ∧
    (∀ i r, (s.slot i).content = some r → ∃ r', (t.slot i).content = some r' ∧ RecoveredFrom r r') ∧
    (∀ i, (s.slot i).content = none → (t.slot i).content = none) ∧
    (∀ b, t.claims.get b = none ∧ t.arcs.get b = { rise := none, fault := none } ∧ t.quiesce.get b = startQuiesce ∧
      t.permit.get b = false ∧ t.beacon.get b = t.beaconDue b) ∧
    (∀ c, t.runway.get c = startRunway ∧ t.motion.get c = false) ∧ (∀ e, t.entry e = none) ∧
    t.committed = s.committed ∧ t.validMark = s.validMark ∧ t.piles = s.piles ∧ t.stations = s.stations ∧
    t.infeed = s.infeed ∧ t.hooks = s.hooks ∧ t.active = s.active ∧ t.consumables = s.consumables ∧ t.pending = s.pending) ∧
  (∀ (s : State) (eStop one two : Bool), ∃ t, exec (.start eStop one two) s = .next t ∧ t.eStop = eStop ∧
    t.arcs = ⟨⟨if one then some 0 else none, if one then some 0 else none⟩,
              ⟨if two then some 0 else none, if two then some 0 else none⟩⟩ ∧
    (∀ b, t.permit.get b = false) ∧ (∀ c, t.motion.get c = false) ∧
    (one = true → ∀ h ∈ s.activeRecords .one, ∀ r, t.recordOf h = some r → r.quarantine = true) ∧
    (two = true → ∀ h ∈ s.activeRecords .two, ∀ r, t.recordOf h = some r → r.quarantine = true))

/-! ### The receiver and the notice queues -/

/-- What a link keeps of the bytes received, by the model's FRAME_DISCARDED (log 8): bytes outside a frame go, a start byte whose
length exceeds 1,600 or whose CRC does not match goes, and hunting resumes at the next byte; what stays is empty or begins with
a frame still incomplete or valid, and each frame that becomes whole, one behind a whole frame that still waits too, restarts the
silence count. What the part sends, an answer
with its request's tag or a notice with tag 0 and its gap count, is such a valid frame. -/
def Obligations.ReceiverHuntsForTheStartByte : Prop :=
  (∀ (s : State) (l : Link) (bytes : List Byte), ∃ gone rest last,
    exec (.frameDiscarded l bytes) s = .next { s with
      links := s.links.set l { s.links.get l with received := rest, lastFrame := last }
      txAnswer := none
      txNotice := none } ∧
    (s.links.get l).received ++ bytes = gone ++ rest ∧
    (∀ a x b, gone = a ++ x :: b → x ≠ 0xA5#8 ∨
      (2 ≤ (b ++ rest).length ∧ 1600 < valueOf ((b ++ rest).take 2)) ∨
      (valueOf ((b ++ rest).take 2) + 7 ≤ (b ++ rest).length ∧
        valueOf (((b ++ rest).drop (valueOf ((b ++ rest).take 2) + 5)).take 2) ≠
          (crc16 ((b ++ rest).take (valueOf ((b ++ rest).take 2) + 5))).toNat)) ∧
    (∀ x b, rest = x :: b → x = 0xA5#8 ∧ (b.length < 2 ∨ valueOf (b.take 2) ≤ 1600 ∧
      (b.length < valueOf (b.take 2) + 7 ∨
        valueOf ((b.drop (valueOf (b.take 2) + 5)).take 2) = (crc16 (b.take (valueOf (b.take 2) + 5))).toNat))) ∧
    (∃ m n, HoldsFrames (s.links.get l).received m ∧ HoldsFrames rest n ∧
      last = if m < n then some s.hallTime else (s.links.get l).lastFrame)) ∧
  (∀ (kind tag status : Nat) (body rest : List Byte), body.length ≤ 1600 →
    BeginsFrame (frameBytes kind tag status body ++ rest)) ∧
  (∀ a : Answer, ∃ body, a.frame = frameBytes a.kind.value a.tag a.status.value body) ∧
  (∀ n : SentNotice, ∃ body, n.frame = frameBytes n.notice.kindValue 0 n.gap body)

/-- The last byte of the notice under transmission takes it out of its queue, with the dropped count its transmission began with;
while the link is UP the next one then begins, and the dropped count returns to 0. A notice placed when the queue holds 16 is
dropped and counted, saturating at 255, and any other joins at the tail; on an UP link with nothing under transmission the
oldest begins at once (log 7). -/
def Obligations.NoticesLeaveInOrderWithTheirGap : Prop :=
  (∀ (s : State) (l : Link) (n : Notice) (rest : List Notice) (g : Nat), s.linkUp l = true →
    (s.links.get l).queue = n :: rest → (s.links.get l).sending = some g →
    exec (.noticeSent l) s = .next { s with
      links := s.links.set l (if rest = [] then { s.links.get l with queue := [], sending := none }
        else { s.links.get l with queue := rest, sending := some (s.links.get l).dropped, dropped := 0 })
      txAnswer := none
      txNotice := some { link := l, gap := g, notice := n } }) ∧
  (∀ (s : State) (l : Link) (n : Notice) (q : LinkState), (l = .office → ∀ k, n.cls = some k → s.mask.admits k = true) →
    q = (if (s.links.get l).queue.length < 16 then { s.links.get l with queue := (s.links.get l).queue ++ [n] }
      else { s.links.get l with dropped := if (s.links.get l).dropped < 255 then (s.links.get l).dropped + 1 else 255 }) →
    s.notify l n = { s with links := s.links.set l (if q.up = true ∧ q.sending = none ∧ q.queue ≠ [] then
      { q with sending := some q.dropped, dropped := 0 } else q) })

/-- A silent link goes DOWN in that event, and no other link does. On the office link nothing else follows. A bed's ARC PERMIT
falls and the recall of its claimed record ends NO_ANSWER; a session in STOPPING or PARKING is degraded and goes on in PARKING
while the arc is ON, and with the arc OFF it is QUIESCED at once, the office told DEGRADED, and its holders granted, the hall hold
with HOLD COMPLETE once both beds are QUIESCED. A crane's MOTION ENABLE falls, its span and breach stand, and its order in PICKUP
or CARRY is HALTED with cause LINK. Records, places, claims, consumables and arcs stand. The office hears RECALL END before
DEGRADED, and DEGRADED before HOLD COMPLETE, by the model's choice (log 33). -/
def Obligations.SilenceTakesTheLinkDown : Prop :=
  ∀ (s : State) (l : Link) (f : Time), s.linkUp l = true → (s.links.get l).lastFrame = some f →
    s.committed.silenceLimit < (s.hallTime - f).toNat →
    ∃ t, exec (.silenceExpiry l) s = .next t ∧ t.linkUp l = false ∧ (∀ k, k ≠ l → t.linkUp k = s.linkUp k) ∧
      t.slots = s.slots ∧ t.piles = s.piles ∧ t.stations = s.stations ∧ t.infeed = s.infeed ∧ t.hooks = s.hooks ∧
      t.claims = s.claims ∧ t.consumables = s.consumables ∧ t.arcs = s.arcs ∧ t.committed = s.committed ∧ t.mask = s.mask ∧
      (l = .office → t = { s with
        links := s.links.set l { s.links.get l with up := false, received := completeFrames (s.links.get l).received }
        txAnswer := none
        txNotice := none }) ∧
      (∀ b u v, l = .bed b →
        u = { s with
          links := s.links.set l { s.links.get l with up := false, received := completeFrames (s.links.get l).received }
          permit := s.permit.set b false
          txAnswer := none
          txNotice := none } →
        ((∀ n, s.claims.get b = some n → s.recallOf n.plate = none) → v = u) →
        (∀ n e q, s.claims.get b = some n → s.recallOf n.plate = some (e, q) →
          v = { u with shared := s.shared.setIfInBounds (e - 2) none }.notify .office
            (.recallEnd q.tag n.plate .noAnswer (s.custodyOf n.plate))) →
        t.permit.get b = false ∧
        ((s.quiesce.get b).state = .running ∨ (s.quiesce.get b).state = .quiesced → t = v) ∧
        ((s.quiesce.get b).state = .parking → (s.arcs.get b).rise ≠ none →
          t = { v with quiesce := s.quiesce.set b { s.quiesce.get b with degraded := true } }) ∧
        ((s.quiesce.get b).state = .stopping → (s.arcs.get b).rise ≠ none →
          t.beacon = s.beacon.set b (t.beaconDue b) ∧ { t with beacon := s.beacon } = { v with
            quiesce := s.quiesce.set b { s.quiesce.get b with
              state := .parking, allowance := false, parked := false, degraded := true, timer := some { age := 0 } } }) ∧
        ((s.quiesce.get b).state = .stopping ∨ (s.quiesce.get b).state = .parking → (s.arcs.get b).rise = none →
          (∀ e o, WaitsOnlyFor s b e o → t.orderAt e = some (s.leftReserving o)) ∧
          ((s.links.get .office).queue.length < 15 → s.mask.fault = true →
            .degraded b (s.quiesce.get b).session (s.quiesce.get b).holders.members ∈ (t.links.get .office).queue) ∧
          ((∀ c tag, (s.quiesce.get b).holders.order.get c = some tag →
              ∃ e o, s.activeOrder c = some (e, o) ∧ o.tag = tag ∧ o.redirect = none) →
            t.quiesce = s.quiesce.set b { s.quiesce.get b with
              state := .quiesced
              allowance := (s.quiesce.get b).allowance && (s.quiesce.get b).state ≠ .stopping
              parked := (s.quiesce.get b).parked && (s.quiesce.get b).state ≠ .stopping
              degraded := true
              timer := none } ∧
            (∀ d, (∀ o, s.orderAt d = some o → ¬WaitsOnlyFor s b d o) → t.entry d = v.entry d)) ∧
          ((s.quiesce.get b).holders = { order := ⟨none, none⟩, hall := true } → ∀ e g, s.hold = some (e, g) →
            t.links = (if (s.quiesce.get b.other).state = .quiesced ∧ (s.quiesce.get b.other).holders.hall = true then
                (v.notify .office (.degraded b (s.quiesce.get b).session [.hall])).notify .office (.holdComplete g)
              else v.notify .office (.degraded b (s.quiesce.get b).session [.hall])).links))) ∧
      (∀ c, l = .crane c → t.motion.get c = false ∧ t.runway = s.runway ∧
        ∀ e o, s.orderAt e = some o → o.crane = c → o.stage = .pickup ∨ o.stage = .carry →
          t.orderAt e = some { o with
            stage := .halted, remembered := if o.stage = .pickup then .pickup else .carry, timer := none, redirect := none,
            causes := { noCauses with link := true } })

/-! ### Emergency stop -/

/-- E-STOP asserted: every ARC PERMIT and MOTION ENABLE falls; an order in PICKUP or CARRY is HALTED with cause ESTOP and
remembers its stage, a HALTED one gains the cause, one in RESERVING outside a REDIRECT's wait or QUEUED is not touched.
E-STOP released: cause ESTOP leaves every order, which keeps its stage; the lines take the levels their conditions give. -/
def Obligations.EmergencyStopHaltsAndFreesTheHall : Prop :=
  (∀ s : State, s.eStop = false → ∃ t, exec .eStopAsserted s = .next t ∧ t.eStop = true ∧
    (∀ b, t.permit.get b = false) ∧ (∀ c, t.motion.get c = false) ∧
    (∀ e o, s.orderAt e = some o →
      (o.stage = .pickup ∨ o.stage = .carry → t.orderAt e = some { o with
        stage := .halted, remembered := if o.stage = .pickup then .pickup else .carry, timer := none, redirect := none,
        causes := { noCauses with estop := true } }) ∧
      (o.stage = .halted → t.orderAt e = some { o with causes := { o.causes with estop := true } }) ∧
      (o.stage = .queued → t.orderAt e = some o) ∧ (o.stage = .reserving → o.redirect = none → t.orderAt e = some o)) ∧
    (∀ e, s.orderAt e = none → t.entry e = s.entry e) ∧
    (∀ b, t.quiesce.get b = { s.quiesce.get b with
      allowance := (s.quiesce.get b).allowance && (s.quiesce.get b).state ≠ .stopping }) ∧
    (∀ b, t.links.get (.bed b) = s.links.get (.bed b)) ∧
    { t with eStop := s.eStop, permit := s.permit, quiesce := s.quiesce, motion := s.motion, shared := s.shared,
             links := s.links } = { s with txAnswer := none, txNotice := none }) ∧
  (∀ s : State, s.eStop = true → ∃ t, exec .eStopReleased s = .next t ∧ t.eStop = false ∧
    (∀ b, t.permit.get b = t.permitDue b) ∧ (∀ c, t.motion.get c = t.motionDue c) ∧
    (∀ e o, s.orderAt e = some o → t.orderAt e = some { o with causes := { o.causes with estop := false } }) ∧
    (∀ e, s.orderAt e = none → t.entry e = s.entry e) ∧
    (∀ b, t.links.get (.bed b) = s.links.get (.bed b)) ∧
    { t with eStop := s.eStop, permit := s.permit, quiesce := s.quiesce, motion := s.motion, shared := s.shared,
             links := s.links } = { s with txAnswer := none, txNotice := none })

/-! ### Arcs, beacons -/

/-- A rising edge under an asserted ARC PERMIT stores the rise time, and a claimed record still CLAIMED becomes WORKED, its
recall ending KEPT; nothing else changes. A rising edge under a deasserted ARC PERMIT latches the bed's fault with its time,
quarantines the records on an unclaimed active station and no others, makes a CLAIMED record WORKED, and gives ARC_FAULT to
every order in the bed's holder set; the MOTION ENABLE of those cranes and the bed's ARC PERMIT are deasserted. -/
def Obligations.RisingEdgesWorkTheClaimOrLatchTheFault : Prop :=
  (∀ (s : State) (b : Bed), (s.arcs.get b).rise = none → s.permit.get b = true →
    ∃ t, exec (.arcSenseRisingEdge b) s = .next t ∧
      t.arcs = s.arcs.set b { s.arcs.get b with rise := some s.hallTime } ∧
      (∀ n q, s.claims.get b = some n → s.recordOf n.plate = some q → q.custody = .claimed b →
        t.recordOf n.plate = some { q with custody := .worked b } ∧
        (∀ e c, s.recallOf n.plate = some (e, c) → t.entry e = none ∧
          t.links = (s.notify .office (.recallEnd c.tag n.plate .kept (some (.worked b)))).links) ∧
        (s.recallOf n.plate = none → t.shared = s.shared ∧ t.links = s.links)) ∧
      (∀ h, (∀ n, s.claims.get b = some n → h ≠ n.plate) → t.recordOf h = s.recordOf h) ∧
      ((∀ n, s.claims.get b = some n → s.custodyOf n.plate ≠ some (.claimed b)) →
        t.slots = s.slots ∧ t.shared = s.shared ∧ t.links = s.links) ∧
      { t with arcs := s.arcs, slots := s.slots, shared := s.shared, links := s.links } =
        { s with txAnswer := none, txNotice := none }) ∧
  (∀ (s : State) (b : Bed), (s.arcs.get b).rise = none → s.permit.get b = false →
    ∃ t, exec (.arcSenseRisingEdge b) s = .next t ∧
      t.arcs = s.arcs.set b { rise := some s.hallTime, fault := some s.hallTime } ∧ t.permit.get b = false ∧
      (s.claims.get b = none → ∀ h ∈ s.activeRecords b, t.recordOf h = (s.recordOf h).map ({ · with quarantine := true })) ∧
      (∀ h q, s.recordOf h = some q → h ∉ s.activeRecords b ∨ s.claims.get b ≠ none →
        ∃ q', t.recordOf h = some q' ∧ q'.quarantine = q.quarantine) ∧
      (∀ n q, s.claims.get b = some n → s.recordOf n.plate = some q → q.custody = .claimed b →
        t.recordOf n.plate = some { q with custody := .worked b }) ∧
      (∀ e o, s.orderAt e = some o → (s.quiesce.get b).holders.order.get o.crane = some o.tag →
        (o.stage = .pickup ∨ o.stage = .carry ∨ (o.stage = .reserving ∧ o.redirect = none) →
          t.orderAt e = some { o with
            stage := .halted
            remembered := match o.stage with | .pickup => .pickup | .carry => .carry | _ => .reserving
            timer := none
            redirect := none
            causes := { noCauses with arcFault := true } }) ∧
        (o.stage = .halted → t.orderAt e = some { o with causes := { o.causes with arcFault := true } }) ∧
        (o.stage ≠ .queued → t.motion.get o.crane = false)) ∧
      (∀ e o, s.orderAt e = some o → (s.quiesce.get b).holders.order.get o.crane ≠ some o.tag → t.orderAt e = some o) ∧
      t.piles = s.piles ∧ t.stations = s.stations ∧ t.infeed = s.infeed ∧ t.hooks = s.hooks ∧ t.claims = s.claims ∧
      t.consumables = s.consumables ∧ t.committed = s.committed)

/-- A falling edge charges the arc: its duration to the arc times, a pierce if it lasted the minimum arc time, else a
misfire; the consumable state is HOLD from the first edge that reaches a hold threshold or a third misfire in a row, else
WARN from the first that reaches a warn threshold, and never moves down; entering HOLD deasserts ARC PERMIT. A bed that
waited in PARKING for the edge, held by the hall hold, becomes QUIESCED, with HOLD COMPLETE if the other bed is so too. -/
def Obligations.FallingEdgeChargesTheArc : Prop :=
  ∀ (s : State) (b : Bed) (f : Time), (s.arcs.get b).rise = some f →
    ∃ t new, exec (.arcSenseFallingEdge b) s = .next t ∧
      t.arcs = s.arcs.set b { s.arcs.get b with rise := none } ∧
      t.consumables = s.consumables.set b new ∧
      new.arcTime = min 4294967295 ((s.consumables.get b).arcTime + (s.hallTime - f).toNat) ∧
      ((s.committed.consumables.get b).minArc ≤ (s.hallTime - f).toNat →
        new.pierces = min 65535 ((s.consumables.get b).pierces + 1) ∧ new.misfires = 0) ∧
      ((s.hallTime - f).toNat < (s.committed.consumables.get b).minArc →
        new.pierces = (s.consumables.get b).pierces ∧ new.misfires = min 255 ((s.consumables.get b).misfires + 1)) ∧
      (new.state = .hold ↔ (s.consumables.get b).state = .hold ∨ 3 ≤ new.misfires ∨
        ((s.committed.consumables.get b).holdPierces ≠ 0 ∧ (s.committed.consumables.get b).holdPierces ≤ new.pierces) ∨
        ((s.committed.consumables.get b).holdSeconds ≠ 0 ∧
          (s.committed.consumables.get b).holdSeconds * 1000 ≤ new.arcTime)) ∧
      (new.state = .warn ↔ new.state ≠ .hold ∧ ((s.consumables.get b).state = .warn ∨
        ((s.committed.consumables.get b).warnPierces ≠ 0 ∧ (s.committed.consumables.get b).warnPierces ≤ new.pierces) ∨
        ((s.committed.consumables.get b).warnSeconds ≠ 0 ∧
          (s.committed.consumables.get b).warnSeconds * 1000 ≤ new.arcTime))) ∧
      t.claims = s.claims.set b ((s.claims.get b).map fun n => { n with
        arcTime := min 4294967295 (n.arcTime + (s.hallTime - f).toNat)
        pierces := if (s.committed.consumables.get b).minArc ≤ (s.hallTime - f).toNat then min 65535 (n.pierces + 1)
          else n.pierces }) ∧
      (new.state = .hold → (s.consumables.get b).state ≠ .hold → t.permit.get b = false) ∧
      ((s.quiesce.get b).state = .parking → (s.quiesce.get b).parked = true ∨ (s.quiesce.get b).degraded = true →
        (s.quiesce.get b).holders = { order := ⟨none, none⟩, hall := true } →
        (t.quiesce.get b).state = .quiesced ∧ (t.quiesce.get b).timer = none ∧
        ∀ e g, s.hold = some (e, g) → (s.quiesce.get b.other).state = .quiesced →
          (s.quiesce.get b.other).holders.hall = true → (s.links.get .office).queue.length < 14 →
          .holdComplete g ∈ (t.links.get .office).queue) ∧
      t.slots = s.slots ∧ t.piles = s.piles ∧ t.stations = s.stations ∧ t.infeed = s.infeed ∧ t.hooks = s.hooks

/-- A BEACON line is due active in RUN: flashing by half-seconds for a bed in HOLD while the consumable source is enabled,
steady for one in WARN or not RUNNING while its source is enabled. A 500 ms boundary gives a flashing BEACON line the level
of its half-second and leaves every other line as it stands. -/
def Obligations.BeaconShowsHoldWarnAndQuiesce : Prop :=
  (∀ (s : State) (b : Bed), s.beaconDue b = true ↔ s.part = .run ∧
    ((((s.committed.beacons.get b).mode = .consumable ∨ (s.committed.beacons.get b).mode = .both) ∧
        (s.consumables.get b).state = .hold ∧ s.hallTime.toNat / 500 % 2 = 0) ∨
      (((s.committed.beacons.get b).mode = .consumable ∨ (s.committed.beacons.get b).mode = .both) ∧
        (s.consumables.get b).state = .warn) ∨
      (((s.committed.beacons.get b).mode = .quiesce ∨ (s.committed.beacons.get b).mode = .both) ∧
        (s.quiesce.get b).state ≠ .running ∧
        ¬(((s.committed.beacons.get b).mode = .consumable ∨ (s.committed.beacons.get b).mode = .both) ∧
          (s.consumables.get b).state = .hold)))) ∧
  (∀ s : State, s.hallTime.toNat % 500 = 0 →
    ∃ t, exec .beaconFlashBoundary s = .next t ∧
      (∀ b, t.beacon.get b =
        if s.part = .run ∧ (s.consumables.get b).state = .hold ∧
            ((s.committed.beacons.get b).mode = .consumable ∨ (s.committed.beacons.get b).mode = .both) then
          decide (s.hallTime.toNat / 500 % 2 = 0)
        else s.beacon.get b) ∧
      { t with beacon := s.beacon } = { s with txAnswer := none, txNotice := none })

/-! ### Ticks and expiries -/

/-- A class tick is a tick of each entry timed in the class (R181, log 3): the entries at age 2 that it finds, in entry order, expire
one after another, each as by its own expiry command, and then every other entry that it still examines ages, 0 to 1 and 1 to 2;
the next tick falls one period later. -/
def Obligations.ClassTickAgesItsEntries : Prop :=
  ∀ (s : State) (k : TimeoutClass) (es : List Nat), s.hallTime = s.nextTick.get k →
    (∀ e, e ∈ es ↔ AtItsTick s e k) → es.Pairwise (· < ·) →
    ∃ (us : List State) (t : State), us.head? = some { s with txAnswer := none, txNotice := none } ∧ us.length = es.length + 1 ∧
      (∀ (j e : Nat) (u v : State), es[j]? = some e → us[j]? = some u → us[j + 1]? = some v →
        (AtItsTick u e k → ∃ i, ExpiryOf u e i ∧ exec i u = .next v) ∧ (¬AtItsTick u e k → v = u)) ∧
      exec (.classTick k) s = .next t ∧ ∀ u, us.getLast? = some u → AgedBy k u t

/-- Expiry of an order in PICKUP or CARRY halts it with cause TIMEOUT; expiry of one in RESERVING with an empty hook ends it
BLOCKED: its entry is freed, its request is withdrawn and ORDER END goes to its crane and the office. -/
def Obligations.OrderExpiryHaltsOrBlocks : Prop :=
  ∀ (s : State) (e : Nat) (o : Order) (k : TimeoutClass), s.orderAt e = some o → AtItsTick s e k →
    (o.stage = .pickup ∨ o.stage = .carry → ∃ t, exec (.orderExpiry e) s = .next t ∧
      t.orderAt e = some { o with
        stage := .halted, remembered := if o.stage = .pickup then .pickup else .carry, timer := none, redirect := none,
        causes := { noCauses with timeout := true } } ∧
      (∀ d, d ≠ e → t.entry d = s.entry d) ∧
      t.links = (s.notify (.crane o.crane) (.orderHalted o.tag { noCauses with timeout := true }
        (if o.stage = .pickup then .pickup else .carry))).links ∧
      t.motion.get o.crane = t.motionDue o.crane ∧ t.motion.get o.crane.other = s.motion.get o.crane.other ∧
      t.ticked = s.ticked.set k (s.ticked.get k ++ [e]) ∧
      { t with shared := s.shared, links := s.links, motion := s.motion, ticked := s.ticked } =
        { s with txAnswer := none, txNotice := none }) ∧
    (o.stage = .reserving → o.redirect = none → o.spanHeld = false → o.records = [] → s.hookLoaded o.crane = false →
      (∀ b, (s.quiesce.get b).holders.order.get o.crane ≠ some o.tag) → s.queuedOrder o.crane = none →
      (s.runway.get o.crane.other).request = none →
      ∃ t, exec (.orderExpiry e) s = .next t ∧ t.entry e = none ∧ (∀ d, d ≠ e → t.entry d = s.entry d) ∧
        t.runway.get o.crane = { s.runway.get o.crane with
          request := (s.runway.get o.crane).request.filter fun q => q.tag ≠ o.tag } ∧
        t.links = ((s.notify (.crane o.crane) (.orderEnd ⟨o.crane, o.tag, .blocked, none, o.short, o.left, o.extras⟩)).notify
          .office (.orderEnd ⟨o.crane, o.tag, .blocked, none, o.short, o.left, o.extras⟩)).links ∧
        t.slots = s.slots ∧ t.piles = s.piles ∧ t.stations = s.stations ∧ t.hooks = s.hooks ∧ t.quiesce = s.quiesce)

/-- Expiry of STOPPING breaks the cut: ARC PERMIT falls, FORCED goes to the bed and the office and PARK to the bed, and the
session goes on in PARKING with age 0. CONTOUR DONE of the open session does the same without FORCED; one of another session,
or in another state, is LATE. Expiry of PARKING removes the crane orders from the holder set and tells the office (with an empty
order list where HALL alone held the bed, log 19); QUIESCE TIMEOUT goes before the ORDER END of a removed order by the model's
choice (log 19). A hall hold that stays keeps the session in PARKING with age 0; otherwise the session closes. A removed order
with nothing on its hook ends QUIESCE_TIMEOUT. -/
def Obligations.SessionsEndTheirStopsInTime : Prop :=
  (∀ (s : State) (b : Bed), (s.quiesce.get b).state = .stopping → AtItsTick s (b.number - 1) .answer →
    ∃ t, exec (.stoppingExpiry b) s = .next t ∧ t.beacon = s.beacon.set b (t.beaconDue b) ∧
      { t with beacon := s.beacon } =
        ((({ s with
            quiesce := s.quiesce.set b { s.quiesce.get b with
              state := .parking, allowance := false, parked := false, timer := some { age := 0 } }
            permit := s.permit.set b false
            ticked := s.ticked.set .answer (s.ticked.answer ++ [b.number - 1])
            txAnswer := none
            txNotice := none }.notify (.bed b)
          (.forced b (s.quiesce.get b).session ((s.claims.get b).map Nest.plate) s.hallTime)).notify .office
          (.forced b (s.quiesce.get b).session ((s.claims.get b).map Nest.plate) s.hallTime)).notify (.bed b)
          (.park (s.quiesce.get b).session))) ∧
  (∀ (s : State) (r : Req) (b : Bed), s.ready r (.bed b) .run → (s.quiesce.get b).state = .stopping →
    ∃ t, exec (.contourDone r (s.quiesce.get b).session) s = .next t ∧ t.beacon = s.beacon.set b (t.beaconDue b) ∧
      { t with beacon := s.beacon } =
        { s.after r .contourDone .ok .empty with
            quiesce := s.quiesce.set b { s.quiesce.get b with
              state := .parking, allowance := false, parked := false, timer := some { age := 0 } }
            permit := s.permit.set b false }.notify (.bed b) (.park (s.quiesce.get b).session)) ∧
  (∀ (s : State) (r : Req) (b : Bed) (m : Nat), s.ready r (.bed b) .run →
    (s.quiesce.get b).state ≠ .stopping ∨ (s.quiesce.get b).session ≠ m →
    exec (.contourDone r m) s = .next (s.after r .contourDone .late .empty)) ∧
  (∀ (s : State) (b : Bed), (s.quiesce.get b).state = .parking → AtItsTick s (b.number - 1) .answer →
    (s.quiesce.get b).holders = { order := ⟨none, none⟩, hall := true } →
    exec (.parkingExpiry b) s = .next
      ({ s with
          quiesce := s.quiesce.set b { s.quiesce.get b with timer := some { age := 0 } }
          ticked := s.ticked.set .answer (s.ticked.answer ++ [b.number - 1])
          txAnswer := none
          txNotice := none }.notify .office (.quiesceTimeout b (s.quiesce.get b).session []))) ∧
  (∀ (s : State) (b : Bed) (e : Nat) (o : Order), (s.quiesce.get b).state = .parking →
    AtItsTick s (b.number - 1) .answer → s.orders = [(e, o)] → o.stage ≠ .queued → o.records = [] →
    s.hookLoaded o.crane = false → (s.quiesce.get b).holders.order.get o.crane = some o.tag →
    (s.runway.get o.crane.other).request = none →
    ∃ t, exec (.parkingExpiry b) s = .next t ∧ t.entry e = none ∧
      (t.quiesce.get b).holders = { order := ⟨none, none⟩, hall := (s.quiesce.get b).holders.hall } ∧
      (t.quiesce.get b).state = (if (s.quiesce.get b).holders.hall then .parking else .running) ∧
      (t.quiesce.get b).timer = (if (s.quiesce.get b).holders.hall then some { age := 0 } else none) ∧
      (s.mask.crane = true → (s.links.get .office).queue.length < 14 → ∃ more, (t.links.get .office).queue =
        (s.links.get .office).queue ++ .quiesceTimeout b (s.quiesce.get b).session [⟨o.crane, o.tag⟩] :: more ∧
        .orderEnd ⟨o.crane, o.tag, .quiesceTimeout, none, o.short, o.left, o.extras⟩ ∈ more))

/-! ### HELLO, STATUS and QUERY -/

/-- A HELLO with the role of its link, in either part state, is answered with the part state, the hall time and the queued
count. On an UP link nothing repeats; a DOWN link goes UP: a bed's permit is evaluated and PARK is sent to it in an open
session, and a crane's orders lose cause LINK and its MOTION ENABLE is evaluated. The office's mask becomes the mask byte. A
HELLO with another role is refused ROLE. The model's choices: the queued count of the answer counts the PARK this HELLO places
(log 27), and bits 5 to 7 of the mask byte are ignored (log 35). -/
def Obligations.HelloBringsItsLinkUp : Prop :=
  ∀ (s : State) (r : Req) (mask : Nat), r.status = 0 → r.fits = true →
    (s.linkUp r.link = true → exec (.hello r (roleOf r.link) mask) s = .next
      { s.after r .hello .ok (.hello (decide (s.part = .run)) s.hallTime (s.links.get r.link).queue.length) with
        mask := if r.link = .office then
          ⟨mask.testBit 0, mask.testBit 1, mask.testBit 2, mask.testBit 3, mask.testBit 4⟩ else s.mask }) ∧
    (s.linkUp r.link = false → ∃ t, exec (.hello r (roleOf r.link) mask) s = .next t ∧ t.linkUp r.link = true ∧
      (t.links.get r.link).lastFrame = some s.hallTime ∧
      t.txAnswer = some ⟨r.link, .hello, r.tag, .ok,
        .hello (decide (s.part = .run)) s.hallTime (t.links.get r.link).queue.length⟩ ∧
      (r.link = .office → t.mask = ⟨mask.testBit 0, mask.testBit 1, mask.testBit 2, mask.testBit 3, mask.testBit 4⟩ ∧
        { t with links := s.links, mask := s.mask, txAnswer := none } = { s with txAnswer := none, txNotice := none }) ∧
      (∀ b, r.link = .bed b → t.permit.get b = t.permitDue b ∧
        (t.links.get r.link).queue = (s.links.get r.link).queue ++
          (if (s.quiesce.get b).state = .running ∨ 16 ≤ (s.links.get r.link).queue.length then []
           else [.park (s.quiesce.get b).session]) ∧
        { t with links := s.links, permit := s.permit, quiesce := s.quiesce, txAnswer := none } =
          { s with txAnswer := none, txNotice := none }) ∧
      (∀ c, r.link = .crane c → t.motion.get c = t.motionDue c ∧
        (∀ e o, s.orderAt e = some o → t.orderAt e =
          some (if o.crane = c then { o with causes := { o.causes with link := false } } else o)) ∧
        { t with links := s.links, shared := s.shared, motion := s.motion, txAnswer := none } =
          { s with txAnswer := none, txNotice := none })) ∧
    (∀ role, role ≠ roleOf r.link → exec (.hello r role mask) s = .next (s.after r .hello .role .empty))

/-- STATUS on an UP link, in either part state, answers the state of the hall and changes nothing. -/
def Obligations.StatusAnswersTheHall : Prop :=
  ∀ (s : State) (r : Req), s.linkUp r.link = true → r.status = 0 → r.fits = true →
    ∃ v, exec (.status r) s = .next (s.after r .status .ok (.status v)) ∧
      v.run = decide (s.part = .run) ∧ v.time = s.hallTime ∧ (∀ l, v.links.get l = s.linkUp l) ∧
      (∀ b, v.quiesce.get b = (s.quiesce.get b).state) ∧ v.permit = s.permit ∧
      (v.hallHold = true ↔ ∃ e g, s.entry e = some (.hold g)) ∧ v.eStop = s.eStop ∧
      (∀ c, v.span.get c = (s.runway.get c).span.map (·.kind) ∧ v.breach.get c = (s.runway.get c).breach.isSome) ∧
      v.motion = s.motion ∧ v.freeEntries = ([2, 3, 4, 5, 6, 7].filter fun e => (s.entry e).isNone).length ∧
      v.periods = s.committed.periods ∧
      v.freeSlots = ((List.range 512).filter fun i => (s.slot i).content.isNone).length

/-- QUERY of a record, by index or by handle, answers the slot with its generation, and the record with its place while the
slot is OCCUPIED; a handle of another generation is STALE and named by the slot's state, and an index above 511 or
an object byte that names no object is RANGE.
QUERY of a stack or a station answers its list, its limits or skeleton, and the inbound bookings live orders hold on it; a
stack above 47 is RANGE. -/
def Obligations.QueryAnswersRecordsAndPlaces : Prop :=
  (∀ (s : State) (r : Req) (i : Nat), s.linkUp r.link = true → r.status = 0 → r.fits = true → i < 512 →
    (∀ q, (s.slot i).content = some q → ∃ p,
      exec (.queryRecord r (.record i) none) s = .next (s.after r .query .ok
        (.slot true (s.slot i).gen (some { handle := ⟨i, (s.slot i).gen⟩, record := q, place := p }))) ∧
      ((s.slot i).gen ≤ 63 → exec (.queryRecord r (.record i) (some (s.slot i).gen)) s = .next (s.after r .query .ok
        (.slot true (s.slot i).gen (some { handle := ⟨i, (s.slot i).gen⟩, record := q, place := p })))) ∧
      (p = some .infeed → ⟨i, (s.slot i).gen⟩ ∈ s.infeed) ∧
      (∀ n level, p = some (.stack n level) → (s.pile n)[level]? = some ⟨i, (s.slot i).gen⟩) ∧
      (∀ b st, p = some (.station b st) → ⟨i, (s.slot i).gen⟩ ∈ (s.station b st).records) ∧
      (∀ c pos, p = some (.hook c pos) → (s.hook c)[pos]? = some ⟨i, (s.slot i).gen⟩) ∧
      (p = none → ⟨i, (s.slot i).gen⟩ ∉ s.listed)) ∧
    ((s.slot i).content = none →
      exec (.queryRecord r (.record i) none) s = .next (s.after r .query .ok (.slot false (s.slot i).gen none))) ∧
    (∀ g, g ≤ 63 → s.recordOf ⟨i, g⟩ = none → exec (.queryRecord r (.record i) (some g)) s =
      .next (s.after r .query .stale (.slot (s.slot i).content.isSome (s.slot i).gen none)))) ∧
  (∀ (s : State) (r : Req), s.linkUp r.link = true → r.status = 0 → r.fits = true →
    (∀ n, n < 48 → ∃ v, exec (.queryStack r n) s = .next (s.after r .query .ok (.stack v)) ∧
      v.config = s.committed.stack n ∧
      (v.inUse = true ↔ ∃ i z lanes lo hi ls, i < 16 ∧ s.committed.zone i = z ∧ z.valid = true ∧
        z.kind = .stacking lanes lo hi ls ∧ n ∈ ls) ∧
      v.records = (s.pile n).map (fun h => (h, s.thicknessOf h)) ∧ v.thickness = ((s.pile n).map s.thicknessOf).sum ∧
      v.inboundCount = ((s.orders.filterMap (·.2.inbound)).filter (·.place = .stack n)).foldr (·.count + ·) 0 ∧
      v.inboundThickness = ((s.orders.filterMap (·.2.inbound)).filter (·.place = .stack n)).foldr (·.thickness + ·) 0) ∧
    (∀ n, 48 ≤ n → exec (.queryStack r n) s = .next (s.after r .query .range .empty)) ∧
    (∀ b st, ∃ v, exec (.queryStation r b.number st.code) s = .next (s.after r .query .ok (.station v)) ∧
      v.centre = (s.committed.stationCentres.get b).get st ∧ v.records = (s.station b st).records ∧
      v.inboundCount = ((s.orders.filterMap (·.2.inbound)).filter (·.place = .station b st)).foldr (·.count + ·) 0 ∧
      v.skeleton = (s.station b st).skeleton ∧ v.skeletonMass = (s.station b st).skeletonMass ∧
      (v.closedByClaim = true ↔ ∃ h ∈ (s.station b st).records, ∃ k, s.custodyOf h = some (.claimed k) ∨
        s.custodyOf h = some (.worked k)))) ∧
  (∀ (s : State) (r : Req), s.linkUp r.link = true → r.status = 0 → r.fits = true →
    (∀ i g, 512 ≤ i ∨ (∃ k, g = some k ∧ 63 < k) →
      exec (.queryRecord r (.record i) g) s = .next (s.after r .query .range .empty)) ∧
    (∀ n g, exec (.queryRecord r (.otherObject n) g) s = .next (s.after r .query .range .empty)))

/-- QUERY of an order answers the entry live on the link under the tag, with its stage, its age and its class's next tick
while it is timed, each of its records booked or waited for, and each held bed with its grant, or STATE when none is live. QUERY of a crane answers its position, span, request, breach, line with the
conditions not met, hook, load, parameters and the entries of its orders; another crane number is RANGE. QUERY of a bed
answers its station, claim, nest record, hall time, arc, consumables with their settings, fault, beacon and quiesce items.
The BEACON's level is answered high or low by the model's choice (log 27). None changes anything. -/
def Obligations.QueryAnswersOrdersCranesAndBeds : Prop :=
  (∀ (s : State) (r : Req) (tag : Nat), s.linkUp r.link = true → r.status = 0 → r.fits = true →
    (∀ c e o, s.findOrder ⟨c, tag⟩ = some (e, o) → ∃ v,
      exec (.queryOrder r (roleOf (.crane c)) tag) s = .next (s.after r .query .ok (.order v)) ∧
      v.entry = e ∧ v.link = .crane c ∧ v.tag = tag ∧ v.stage = .order o.stage ∧ v.age = o.timer.map (·.age) ∧
      v.nextTick = (match o.stage with
        | .reserving => some s.nextTick.wait
        | .pickup | .carry => some s.nextTick.travel
        | .queued | .halted => none) ∧
      (∃ held records, v.body = .order o records held ∧ (∀ b, held.get b =
          if (s.quiesce.get b).holders.order.get c = some tag then some (decide ((s.quiesce.get b).state = .quiesced))
          else none) ∧
        records.map (·.1) = o.records ∧
        ∀ h k, (h, k) ∈ records → ∀ q, s.recordOf h = some q →
          (k = some .booked ↔ q.booking = some ⟨c, tag⟩) ∧
          (k = some .awaited ↔ q.booking ≠ some ⟨c, tag⟩ ∧ q.waitSlot = some ⟨c, tag⟩))) ∧
    (∀ c, (∀ e o, s.orderAt e = some o → o.crane = c → o.tag ≠ tag) →
      exec (.queryOrder r (roleOf (.crane c)) tag) s = .next (s.after r .query .state .empty)) ∧
    (∀ e q, s.recalls.find? (fun p => p.2.tag = tag) = some (e, q) → ∃ v,
      exec (.queryOrder r 1 tag) s = .next (s.after r .query .ok (.order v)) ∧
      v.entry = e ∧ v.tag = tag ∧ v.kind = .recall ∧ v.age = some q.timer.age ∧ v.nextTick = some s.nextTick.answer ∧
      v.body = .recall q.handle q.bed) ∧
    (∀ e, s.hold = some (e, tag) → (∀ q ∈ s.recalls, q.2.tag ≠ tag) → ∃ v,
      exec (.queryOrder r 1 tag) s = .next (s.after r .query .ok (.order v)) ∧ v.entry = e ∧ v.kind = .hold ∧
      v.age = none) ∧
    (∀ b, (s.quiesce.get b).state ≠ .running → (s.quiesce.get b).session = tag → ∃ v,
      exec (.queryOrder r (roleOf (.bed b)) tag) s = .next (s.after r .query .ok (.order v)) ∧
      v.stage = .quiesce (s.quiesce.get b).state ∧ v.age = (s.quiesce.get b).timer.map (·.age))) ∧
  (∀ (s : State) (r : Req), s.linkUp r.link = true → r.status = 0 → r.fits = true →
    (∀ c, ∃ v, exec (.queryCrane r c.number) s = .next (s.after r .query .ok (.crane v)) ∧
      v.lastX = (s.runway.get c).lastX ∧ v.span = (s.runway.get c).span ∧
      v.request = (s.runway.get c).request.map (fun q => (q.tag, q.sweep.span)) ∧ v.breach = (s.runway.get c).breach ∧
      v.motion = s.motion.get c ∧
      (.run ∈ v.unmet ↔ s.part ≠ .run) ∧ (.linkUp ∈ v.unmet ↔ s.linkUp (.crane c) = false) ∧
      (.noEStop ∈ v.unmet ↔ s.eStop = true) ∧ (.noBreach ∈ v.unmet ↔ (s.runway.get c).breach.isSome = true) ∧
      (.noHallHold ∈ v.unmet ↔ ∃ e g, s.entry e = some (.hold g)) ∧
      (.spanKnown ∈ v.unmet ↔ (s.runway.get c).span = none) ∧
      (.noArcFault ∈ v.unmet ↔ ∃ e o, s.orderAt e = some o ∧ o.crane = c ∧ o.causes.arcFault = true) ∧
      v.hook = (s.hook c).map (fun h => (h, s.massOf h)) ∧
      v.load = (s.committed.cranes.get c).tare + ((s.hook c).map s.massOf).sum + (s.hungSkeleton c).getD 0 ∧
      v.params = s.committed.cranes.get c ∧
      v.orders.map (·.entry) = ((s.activeOrder c).toList ++ (s.queuedOrder c).toList).map (·.1)) ∧
    (∀ n, n ≠ 1 → n ≠ 2 → exec (.queryCrane r n) s = .next (s.after r .query .range .empty)) ∧
    (∀ b, ∃ v, exec (.queryBed r b.number) s = .next (s.after r .query .ok (.bed v)) ∧
      v.station = s.active.get b ∧ v.claimed = (s.claims.get b).map (fun n => (n.plate, s.custodyOf n.plate)) ∧
      v.nest = s.claims.get b ∧ v.time = s.hallTime ∧ v.rise = (s.arcs.get b).rise ∧
      v.consumable = s.consumables.get b ∧ v.settings = s.committed.consumables.get b ∧
      v.fault = (s.arcs.get b).fault ∧ v.beacon = s.committed.beacons.get b ∧
      v.beaconHigh = (if (s.committed.beacons.get b).polarity = .activeHigh then s.beacon.get b else !s.beacon.get b) ∧
      v.quiesce = (s.quiesce.get b).state ∧ v.session = (s.quiesce.get b).session ∧
      v.holders = (s.quiesce.get b).holders ∧ v.allowance = (s.quiesce.get b).allowance ∧
      v.parked = (s.quiesce.get b).parked ∧ v.degraded = (s.quiesce.get b).degraded ∧ v.permit = s.permit.get b))

/-! ### The place map -/

/-- What a position decodes to. A position x is in a valid zone whose range holds it, or in none. In a STACKING zone the lane of
y is floor((y - y_lo) * lanes / (y_hi - y_lo)), which picks a stack from the zone's lane list; a y outside the zone's range
picks none. In any other zone y is not consulted. -/
def Obligations.PositionsDecodeToPlaces : Prop :=
  ∀ (c : HallConfig) (x : Nat),
    (c.zoneAt x = none ↔ ∀ i, i < 16 → (c.zone i).valid = true → x < (c.zone i).xLo ∨ (c.zone i).xHi ≤ x) ∧
    (c.zoneAt x = none → ∀ y, c.placeAt x y = none) ∧
    (∀ i z, c.zoneAt x = some (i, z) →
      i < 16 ∧ z = c.zone i ∧ z.valid = true ∧ z.xLo ≤ x ∧ x < z.xHi ∧
      (∀ lanes lo hi ls, z.kind = .stacking lanes lo hi ls →
        (∀ (d k : Nat), lo + d < hi → k * (hi - lo) ≤ d * lanes → d * lanes < (k + 1) * (hi - lo) →
          c.placeAt x (lo + d) = (ls[k]?).map Place.stack ∧ (0 < lanes → k < lanes)) ∧
        (∀ y : Int, y < lo ∨ hi ≤ y → c.placeAt x y = none)) ∧
      (∀ y, (z.kind = .infeed → c.placeAt x y = some .infeed) ∧ (z.kind = .scrap → c.placeAt x y = some .scrap) ∧
        (z.kind = .park → c.placeAt x y = none) ∧
        ∀ b st, z.kind = .station b st → c.placeAt x y = some (.station b st)))

/-! ### Records -/

/-- REGISTER of contents in range, with room at the infeed, takes the lowest free slot, raises its generation, writes a PLATE
at REST with the mass of its dimensions and density rounded up, and puts it at the tail of the infeed list. REGISTER is
refused RANGE, NO_ROOM and FULL in this order. -/
def Obligations.RegisterPutsAPlateOnTheInfeed : Prop :=
  (∀ (s : State) (r : Req) (g : Nat) (heat : Text) (l w h i gen : Nat), s.ready r .office .run →
    g < 16 → (s.committed.grade g).valid = true → textOk 12 heat = true → 200 ≤ l → l ≤ 20000 → 100 ≤ w → w ≤ 4800 →
    3 ≤ h → h ≤ 120 → s.infeed.length < 2 → i < 512 → (s.slot i).content = none →
    (∀ j, j < i → (s.slot j).content ≠ none) → gen = (if (s.slot i).gen = 63 then 0 else (s.slot i).gen + 1) →
    ∃ mass, l * w * h * (s.committed.grade g).density ≤ 10 ^ 8 * mass ∧
      10 ^ 8 * mass < l * w * h * (s.committed.grade g).density + 10 ^ 8 ∧
      exec (.register r g heat l w h) s = .next { s.after r .register .ok (.registered ⟨i, gen⟩ mass) with
        slots := s.slots.setIfInBounds i ⟨gen, some
          { kind := .plate, grade := g, heat := heat, length := l, width := w, thickness := h, mass := mass,
            parent := none, custody := .rest, booking := none, waitSlot := none, quarantine := false,
            incomplete := false }⟩
        infeed := s.infeed ++ [⟨i, gen⟩] }) ∧
  (∀ (s : State) (r : Req) (g : Nat) (heat : Text) (l w h : Nat), s.ready r .office .run →
    (16 ≤ g ∨ (s.committed.grade g).valid = false ∨ textOk 12 heat = false ∨ l < 200 ∨ 20000 < l ∨ w < 100 ∨ 4800 < w ∨
      h < 3 ∨ 120 < h → exec (.register r g heat l w h) s = .next (s.after r .register .range .empty)) ∧
    (g < 16 → (s.committed.grade g).valid = true → textOk 12 heat = true → 200 ≤ l → l ≤ 20000 → 100 ≤ w → w ≤ 4800 →
      3 ≤ h → h ≤ 120 →
      (2 ≤ s.infeed.length → exec (.register r g heat l w h) s = .next (s.after r .register .noRoom .empty)) ∧
      (s.infeed.length < 2 → (∀ i, i < 512 → (s.slot i).content ≠ none) →
        exec (.register r g heat l w h) s = .next (s.after r .register .full .empty))))

/-- EDIT of a record at REST and unbooked, with fields in range that fit its stack, replaces the given fields and recomputes
the mass; one held is refused HELD. QUARANTINE SET and QUARANTINE CLEAR write the flag of the record and nothing else,
whatever its custody. RETIRE of a record at REST, unbooked and not waited for, frees its slot with its generation kept and takes
its handle out of every list; the others keep their order. One held is refused HELD, and a cause that is neither SHIPPED nor
SCRAPPED RANGE. -/
def Obligations.RecordsAreEditedFlaggedAndRetired : Prop :=
  (∀ (s : State) (r : Req) (h : Handle) (q : Record) (f : EditArg), s.ready r .office .run → h.gen ≤ 63 →
    s.recordOf h = some q → s.contentsOk f.grade f.heat f.length f.width f.thickness = true →
    (q.custody = .rest → q.booking = none →
      (∀ n t, s.stackOf h = some n → f.thickness = some t →
        ((s.pile n).map s.thicknessOf).sum - q.thickness + t +
          ((s.orders.filterMap (·.2.inbound)).filter (·.place = .stack n)).foldr (·.thickness + ·) 0 ≤
            (s.committed.stack n).heightLimit) →
      ∃ mass,
        f.length.getD q.length * f.width.getD q.width * f.thickness.getD q.thickness *
          (s.committed.grade (f.grade.getD q.grade)).density ≤ 10 ^ 8 * mass ∧
        10 ^ 8 * mass < f.length.getD q.length * f.width.getD q.width * f.thickness.getD q.thickness *
          (s.committed.grade (f.grade.getD q.grade)).density + 10 ^ 8 ∧
        exec (.edit r h f) s = .next { s.after r .edit .ok (.mass mass) with
          slots := s.slots.setIfInBounds h.index ⟨h.gen, some { q with
            heat := f.heat.getD q.heat, grade := f.grade.getD q.grade, length := f.length.getD q.length,
            width := f.width.getD q.width, thickness := f.thickness.getD q.thickness, mass := mass }⟩ }) ∧
    (q.custody ≠ .rest ∨ q.booking ≠ none → exec (.edit r h f) s = .next (s.after r .edit .held .empty))) ∧
  (∀ (s : State) (r : Req) (h : Handle) (q : Record), s.ready r .office .run → h.gen ≤ 63 → s.recordOf h = some q →
    exec (.quarantineSet r h) s = .next { s.after r .quarantineSet .ok .empty with
      slots := s.slots.setIfInBounds h.index ⟨h.gen, some { q with quarantine := true }⟩ } ∧
    exec (.quarantineClear r h) s = .next { s.after r .quarantineClear .ok .empty with
      slots := s.slots.setIfInBounds h.index ⟨h.gen, some { q with quarantine := false }⟩ }) ∧
  (∀ (s : State) (r : Req) (h : Handle) (q : Record), s.ready r .office .run → h.gen ≤ 63 → s.recordOf h = some q →
    (q.custody = .rest → q.booking = none → q.waitSlot = none → ∀ cause name,
      (cause = .shipped ∧ name = .shipped) ∨ (cause = .scrapped ∧ name = .scrapped) →
      ∃ t, exec (.retire r h cause) s = .next t ∧
        t.slots = s.slots.setIfInBounds h.index ⟨h.gen, none⟩ ∧ (∀ p, t.listAt p = (s.listAt p).erase h) ∧
        (∀ b st, (t.station b st).skeleton = (s.station b st).skeleton ∧
          (t.station b st).skeletonMass = (s.station b st).skeletonMass) ∧
        (∀ b, t.permit.get b = t.permitDue b) ∧
        { t with slots := s.slots, piles := s.piles, stations := s.stations, infeed := s.infeed, hooks := s.hooks,
                 permit := s.permit, quiesce := s.quiesce } = s.after r .retire .ok (.retired name)) ∧
    (q.custody ≠ .rest ∨ q.booking ≠ none →
      exec (.retire r h .shipped) s = .next (s.after r .retire .held .empty)) ∧
    exec (.retire r h .other) s = .next (s.after r .retire .range .empty))

/-! ### Recalls, marks, the hall hold -/

/-- RECALL of a record CLAIMED by a bed whose link is UP takes the lowest free entry with age 0 and sends RECALL to the bed.
By any other custody it is answered DONE, IN_TRANSIT or KEPT and nothing changes; a second recall is BUSY, a DOWN link
NO_ANSWER. Before that, RECALL and HALL HOLD are refused RANGE for tag 0, TAG_IN_USE for a tag live on the office link, LIMIT at
two recalls or a live hold, and FULL without a free entry, in this order. -/
def Obligations.RecallFollowsItsChecksAndTheCustody : Prop :=
  (∀ (s : State) (r : Req) (h : Handle) (q : Record) (e : Nat), s.ready r .office .run → 1 ≤ r.tag → r.tag ≤ 255 →
    r.tag ∉ s.officeTags → s.recalls.length < 2 → 2 ≤ e → e ≤ 7 → s.entry e = none →
    (∀ d, 2 ≤ d → d < e → s.entry d ≠ none) → h.gen ≤ 63 → s.recordOf h = some q →
    (∀ b n, q.custody = .claimed b → s.claims.get b = some n → s.recallOf h = none → s.linkUp (.bed b) = true →
      exec (.recall r h) s = .next
        ({ s.after r .recall .accepted .empty with
            shared := s.shared.setIfInBounds (e - 2) (some (.recall ⟨r.tag, h, b, ⟨0⟩⟩)) }.notify (.bed b)
          (.recall h r.tag n.name))) ∧
    (q.custody = .rest → exec (.recall r h) s = .next (s.after r .recall .done .empty)) ∧
    (∀ c, q.custody = .carried c ∨ q.custody = .orphaned c →
      exec (.recall r h) s = .next (s.after r .recall .inTransit .empty)) ∧
    (∀ b, q.custody = .worked b → exec (.recall r h) s = .next (s.after r .recall .kept .empty)) ∧
    (∀ b, q.custody = .claimed b → s.recallOf h ≠ none → exec (.recall r h) s = .next (s.after r .recall .busy .empty)) ∧
    (∀ b, q.custody = .claimed b → s.recallOf h = none → s.linkUp (.bed b) = false →
      exec (.recall r h) s = .next (s.after r .recall .noAnswer .empty))) ∧
  (∀ (s : State) (r : Req), s.ready r .office .run →
    (r.tag = 0 ∨ 255 < r.tag → exec (.hallHold r) s = .next (s.after r .hallHold .range .empty) ∧
      ∀ h, exec (.recall r h) s = .next (s.after r .recall .range .empty)) ∧
    (1 ≤ r.tag → r.tag ≤ 255 →
      (r.tag ∈ s.officeTags → exec (.hallHold r) s = .next (s.after r .hallHold .tagInUse .empty) ∧
        ∀ h, exec (.recall r h) s = .next (s.after r .recall .tagInUse .empty)) ∧
      (r.tag ∉ s.officeTags →
        (s.hold ≠ none → exec (.hallHold r) s = .next (s.after r .hallHold .limit .empty)) ∧
        (2 ≤ s.recalls.length → ∀ h, exec (.recall r h) s = .next (s.after r .recall .limit .empty)) ∧
        ((∀ e, 2 ≤ e → e ≤ 7 → s.entry e ≠ none) →
          (s.hold = none → exec (.hallHold r) s = .next (s.after r .hallHold .full .empty)) ∧
          (s.recalls.length < 2 → ∀ h, exec (.recall r h) s = .next (s.after r .recall .full .empty))))))

/-- WAIVE MARK of a PENDING or FAILED part of a claimed record makes it WAIVED and tells the bed; a WAIVED one is answered OK
and unchanged, any other is STATE, and a part the nest has not is RANGE. -/
def Obligations.WaiveMarkLetsThePartBeCut : Prop :=
  ∀ (s : State) (r : Req) (h : Handle) (q : Record) (b : Bed) (n : Nest), s.ready r .office .run → h.gen ≤ 63 →
    s.recordOf h = some q → q.custody = .claimed b ∨ q.custody = .worked b → s.claims.get b = some n →
    (∀ i v, n.parts[i]? = some v →
      (v.state = .pending ∨ v.state = .failed → exec (.waiveMark r h (i + 1)) s = .next
        ({ s.after r .waiveMark .ok .empty with
            claims := s.claims.set b (some { n with parts := n.parts.set i { v with state := .waived } }) }.notify (.bed b)
          (.markWaived (i + 1) v.mark))) ∧
      (v.state = .waived → exec (.waiveMark r h (i + 1)) s = .next (s.after r .waiveMark .ok .empty)) ∧
      (v.state = .issued ∨ v.state = .marked ∨ v.state = .noMark →
        exec (.waiveMark r h (i + 1)) s = .next (s.after r .waiveMark .state .empty))) ∧
    (∀ p, p = 0 ∨ n.parts.length < p → exec (.waiveMark r h p) s = .next (s.after r .waiveMark .range .empty))

/-- HALL HOLD on two RUNNING beds with their links UP: it takes the lowest free entry, opens a session on each bed (STOPPING
with STOP CONTOUR under a claim, else PARKING with PARK), lowers both MOTION ENABLE lines, and halts every order in PICKUP or
CARRY with cause HALL_HOLD. With both links DOWN and the arcs OFF the beds are QUIESCED at once, degraded, and HOLD COMPLETE is
placed, behind the two DEGRADED, bed 1's first, by the model's choice (log 33). HALL RELEASE frees the hold's entry, takes HALL from both beds
(a session it alone held closes with RESUME), and takes cause HALL_HOLD from every order; without a hold it is answered OK and
changes nothing. -/
def Obligations.HallHoldStopsTheHallUntilItsRelease : Prop :=
  (∀ (s : State) (r : Req) (e : Nat), s.ready r .office .run → 1 ≤ r.tag → r.tag ≤ 255 → r.tag ∉ s.officeTags →
    s.hold = none → 2 ≤ e → e ≤ 7 → s.entry e = none → (∀ d, 2 ≤ d → d < e → s.entry d ≠ none) →
    (∀ b, (s.quiesce.get b).state = .running ∧ s.linkUp (.bed b) = true) →
    ∃ t, exec (.hallHold r) s = .next t ∧ t.txAnswer = some ⟨.office, .hallHold, r.tag, .accepted, .empty⟩ ∧
      t.hold = some (e, r.tag) ∧ (∀ c, t.motion.get c = false) ∧
      (∀ b, t.quiesce.get b =
        { state := if (s.claims.get b).isSome then .stopping else .parking
          holders := { (s.quiesce.get b).holders with hall := true }
          session := if (s.quiesce.get b).session = 255 then 1 else (s.quiesce.get b).session + 1
          allowance := s.permit.get b && s.permitDue b
          parked := false
          degraded := false
          timer := some { age := 0 } } ∧
        t.permit.get b = (s.permit.get b && s.permitDue b) ∧
        (t.links.get (.bed b)).queue = (s.links.get (.bed b)).queue ++
          (if 16 ≤ (s.links.get (.bed b)).queue.length then [] else
            [match s.claims.get b with
              | some n => .stopContour (t.quiesce.get b).session (some n.plate)
              | none => .park (t.quiesce.get b).session])) ∧
      (∀ d o, s.orderAt d = some o →
        (o.stage = .pickup ∨ o.stage = .carry → t.orderAt d = some { o with
          stage := .halted, remembered := if o.stage = .pickup then .pickup else .carry, timer := none, redirect := none,
          causes := { noCauses with hallHold := true } }) ∧
        (o.stage = .halted → t.orderAt d = some { o with causes := { o.causes with hallHold := true } }) ∧
        (o.stage = .queued ∨ (o.stage = .reserving ∧ o.redirect = none) → t.orderAt d = some o)) ∧
      { t with shared := s.shared, quiesce := s.quiesce, permit := s.permit, beacon := s.beacon, motion := s.motion,
               links := s.links, txAnswer := none } = { s with txAnswer := none, txNotice := none }) ∧
  (∀ (s : State) (r : Req) (e : Nat), s.ready r .office .run → 1 ≤ r.tag → r.tag ≤ 255 → r.tag ∉ s.officeTags →
    s.hold = none → 2 ≤ e → e ≤ 7 → s.entry e = none → (∀ d, 2 ≤ d → d < e → s.entry d ≠ none) →
    (∀ b, (s.quiesce.get b).state = .running ∧ (s.quiesce.get b).holders = noHolders ∧ s.linkUp (.bed b) = false ∧
      (s.arcs.get b).rise = none) →
    ∃ t, exec (.hallHold r) s = .next t ∧ t.txAnswer = some ⟨.office, .hallHold, r.tag, .accepted, .empty⟩ ∧
      t.hold = some (e, r.tag) ∧
      (∀ b, t.quiesce.get b =
        { state := .quiesced
          holders := { order := ⟨none, none⟩, hall := true }
          session := if (s.quiesce.get b).session = 255 then 1 else (s.quiesce.get b).session + 1
          allowance := false
          parked := false
          degraded := true
          timer := none }) ∧
      (s.mask.fault = true → (s.links.get .office).queue.length < 14 → (t.links.get .office).queue =
        (s.links.get .office).queue ++ [.degraded .one (t.quiesce.get .one).session [.hall],
          .degraded .two (t.quiesce.get .two).session [.hall], .holdComplete r.tag])) ∧
  (∀ (s : State) (r : Req), s.ready r .office .run →
    (s.hold = none → exec (.hallRelease r) s = .next (s.after r .hallRelease .ok .empty)) ∧
    (∀ e g, s.hold = some (e, g) → ∃ t, exec (.hallRelease r) s = .next t ∧
      t.txAnswer = some ⟨.office, .hallRelease, r.tag, .ok, .empty⟩ ∧ t.entry e = none ∧
      (∀ b, (t.quiesce.get b).holders = { (s.quiesce.get b).holders with hall := false } ∧
        (t.quiesce.get b).session = (s.quiesce.get b).session ∧
        ((s.quiesce.get b).holders = { order := ⟨none, none⟩, hall := true } → (s.quiesce.get b).state ≠ .running →
          (t.quiesce.get b).state = .running ∧ (t.quiesce.get b).timer = none ∧
          (t.links.get (.bed b)).queue = (s.links.get (.bed b)).queue ++
            (if 16 ≤ (s.links.get (.bed b)).queue.length then [] else [.resume (s.quiesce.get b).session])) ∧
        ((s.quiesce.get b).holders.order ≠ ⟨none, none⟩ → t.quiesce.get b =
          { s.quiesce.get b with holders := { (s.quiesce.get b).holders with hall := false } })) ∧
      (∀ d o, s.orderAt d = some o → t.orderAt d = some { o with causes := { o.causes with hallHold := false } }) ∧
      (∀ c, t.motion.get c = t.motionDue c) ∧
      { t with shared := s.shared, quiesce := s.quiesce, permit := s.permit, beacon := s.beacon, motion := s.motion,
               links := s.links, txAnswer := none } = { s with txAnswer := none, txNotice := none }))

/-! ### Faults and breaches -/

/-- CLEAR FAULT with the arc OFF clears the latch and its time, takes ARC_FAULT from every order that has it (but one held by
the other bed while that bed's latch is set), re-evaluates the lines and tells the bed which orders, in the order of their
entries by the model's choice (log 37). With the arc ON it is ARC_ON, with the latch clear OK, and nothing changes. -/
def Obligations.ClearFaultFreesItsOrders : Prop :=
  ∀ (s : State) (r : Req) (b : Bed), s.ready r .office .run →
    ((s.arcs.get b).rise ≠ none → exec (.clearFault r b.number) s = .next (s.after r .clearFault .arcOn .empty)) ∧
    ((s.arcs.get b).rise = none → (s.arcs.get b).fault = none →
      exec (.clearFault r b.number) s = .next (s.after r .clearFault .ok (.orders []))) ∧
    ((s.arcs.get b).rise = none → (s.arcs.get b).fault ≠ none → ∃ t refs, exec (.clearFault r b.number) s = .next t ∧
      t.txAnswer = some ⟨.office, .clearFault, r.tag, .ok, .orders refs⟩ ∧
      refs = (s.orders.filter fun q => q.2.causes.arcFault && !(s.holdsBed q.2 b.other &&
        (s.arcs.get b.other).fault.isSome)).map (fun q => ⟨q.2.crane, q.2.tag⟩) ∧
      t.arcs = s.arcs.set b { rise := none, fault := none } ∧
      (∀ e o, s.orderAt e = some o → t.orderAt e = some (if o.causes.arcFault = true ∧ ⟨o.crane, o.tag⟩ ∈ refs then
        { o with causes := { o.causes with arcFault := false } } else o)) ∧
      (∀ c, t.motion.get c = t.motionDue c) ∧ t.permit.get b = t.permitDue b ∧
      t.links.get (.bed b) = (s.links.get (.bed b)).enqueue (.faultCleared b refs) ∧
      { t with arcs := s.arcs, shared := s.shared, motion := s.motion, permit := s.permit, quiesce := s.quiesce,
               links := s.links, txAnswer := none } = { s with txAnswer := none, txNotice := none })

/-- CLEAR BREACH of a crane that holds no granted order span: the crane's span grows to the hull with its extent interval (or
becomes that interval at REST), the latch clears, BREACH leaves an order of the crane that still has it, and crane and office are
told; it is BLOCKED while that span would overlap
the other crane's span or that one is UNKNOWN; with the latch clear nothing changes. CLEAR BREACH of a crane whose order
holds a granted span widens the order's span and corridor too and takes BREACH from the order, which keeps its stage; it is
BLOCKED while the new order span lies over a bed that is not QUIESCED for the order. -/
def Obligations.ClearBreachWidensTheSpan : Prop :=
  (∀ (s : State) (r : Req) (c : Crane), s.ready r .office .run →
    ((s.runway.get c).breach = none → exec (.clearBreach r c.number) s = .next (s.after r .clearBreach .ok .empty)) ∧
    (∀ x v, (s.runway.get c).breach ≠ none → (s.runway.get c).lastX = some x → s.grantedOrder c = none →
      v = (match (s.runway.get c).span with
        | some u => { u with range :=
            ⟨min u.range.lo (s.extentInterval c x).lo, max u.range.hi (s.extentInterval c x).hi⟩ }
        | none => ⟨.rest, s.extentInterval c x⟩) →
      ((s.runway.get c.other).span = none ∨
          (∃ u, (s.runway.get c.other).span = some u ∧ v.range.lo ≤ u.range.hi ∧ u.range.lo ≤ v.range.hi) →
        exec (.clearBreach r c.number) s = .next (s.after r .clearBreach .blocked .empty)) ∧
      (∀ u, (s.runway.get c.other).span = some u → (v.range.hi < u.range.lo ∨ u.range.hi < v.range.lo) →
        (s.runway.get c).request = none → (s.runway.get c.other).request = none →
        ∃ t, exec (.clearBreach r c.number) s = .next t ∧
          t.motion = s.motion.set c (t.motionDue c) ∧
          (∀ e o, s.orderAt e = some o → t.orderAt e = some (if o.crane = c then
            { o with causes := { o.causes with breach := false } } else o)) ∧
          (∀ e, s.orderAt e = none → t.entry e = s.entry e) ∧
          ((∀ e o, s.orderAt e = some o → o.crane = c → o.causes.breach = false) →
            t.links = (({ s with links := s.heard r.link }.notify (.crane c) (.breachCleared c)).notify .office
              (.breachCleared c)).links) ∧
          { t with motion := s.motion, shared := s.shared, links := s.links } =
            { s.after r .clearBreach .ok .empty with
              runway := s.runway.set c { s.runway.get c with breach := none, span := some v }
              links := s.links }))) ∧
  (∀ (s : State) (r : Req) (c : Crane) (x : Nat) (v u : CraneSpan) (e : Nat) (o : Order) (w w' : Sweep),
    s.ready r .office .run → (s.runway.get c).breach ≠ none → (s.runway.get c).lastX = some x →
    s.grantedOrder c = some (e, o) → o.sweep = some w → (s.runway.get c).span = some v →
    (s.runway.get c.other).span = some u →
    w' = { w with
      span := ⟨min w.span.lo (s.extentInterval c x).lo, max w.span.hi (s.extentInterval c x).hi⟩
      corridor := ⟨min w.corridor.lo (s.clearanceInterval c x).lo, max w.corridor.hi (s.clearanceInterval c x).hi⟩ } →
    (max v.range.hi (s.extentInterval c x).hi < u.range.lo ∨ u.range.hi < min v.range.lo (s.extentInterval c x).lo) →
    ((∃ b, s.bedUnder b w'.span = true ∧ ¬(s.holdsBed o b = true ∧ (s.quiesce.get b).state = .quiesced)) →
      exec (.clearBreach r c.number) s = .next (s.after r .clearBreach .blocked .empty)) ∧
    ((∀ b, s.bedUnder b w'.span = true → s.holdsBed o b = true ∧ (s.quiesce.get b).state = .quiesced) →
      (s.runway.get c).request = none → (s.runway.get c.other).request = none →
      ∃ t, exec (.clearBreach r c.number) s = .next t ∧
        t.orderAt e = some { o with sweep := some w', causes := { o.causes with breach := false } } ∧
        t.runway = s.runway.set c { s.runway.get c with
          breach := none
          span := some { v with range :=
            ⟨min v.range.lo (s.extentInterval c x).lo, max v.range.hi (s.extentInterval c x).hi⟩ } } ∧
        t.motion.get c = t.motionDue c ∧
        { t with shared := s.shared, runway := s.runway, motion := s.motion, links := s.links } =
          { s.after r .clearBreach .ok .empty with links := s.links }))

/-! ### Configuration -/

/-- CONFIG BEGIN with nothing live stages the committed configuration, enters CONFIG and deasserts every line; with an entry,
a claim or a hold live it is BUSY; in CONFIG it is answered OK and changes nothing. CONFIG END of a staged configuration that
passes the checks of R197 commits it, sets the valid mark, enters RUN, clamps the positions and sets the spans from them,
restarts the tick schedules and evaluates every line. One that fails answers the failing check and changes nothing. -/
def Obligations.ConfigurationIsStagedThenCommitted : Prop :=
  (∀ (s : State) (r : Req),
    (s.ready r .office .config → exec (.configBegin r) s = .next (s.after r .configBegin .ok .empty)) ∧
    (s.ready r .office .run →
      ((∀ e, s.entry e = none) → (∀ b, (s.quiesce.get b).state = .running ∧ s.claims.get b = none) →
        exec (.configBegin r) s = .next { s.after r .configBegin .ok .empty with
          part := .config, staged := s.committed, permit := ⟨false, false⟩, motion := ⟨false, false⟩,
          beacon := ⟨false, false⟩ }) ∧
      ((∃ e, s.entry e ≠ none) ∨ (∃ b, (s.quiesce.get b).state ≠ .running ∨ s.claims.get b ≠ none) →
        exec (.configBegin r) s = .next (s.after r .configBegin .busy .empty)))) ∧
  (∀ (s : State) (r : Req), s.ready r .office .config →
    (∀ f, s.validation s.staged = some f →
      exec (.configEnd r) s = .next (s.after r .configEnd f.code (.configCheck f.check f.part f.object))) ∧
    (s.validation s.staged = none → ∃ t, exec (.configEnd r) s = .next t ∧
      t.part = .run ∧ t.validMark = true ∧ t.committed = s.staged ∧ t.staged = s.staged ∧
      (∀ k, t.nextTick.get k = s.hallTime + BitVec.ofNat 32 (s.staged.periods.get k) ∧ t.ticked.get k = []) ∧
      (∀ c, (t.runway.get c).lastX = (s.runway.get c).lastX.map (fun x => min x s.staged.runway) ∧
        (t.runway.get c).breach = (s.runway.get c).breach ∧ (t.runway.get c).request = (s.runway.get c).request) ∧
      ((∃ x y, (t.runway.get .one).lastX = some x ∧ (t.runway.get .two).lastX = some y ∧
          (t.extentInterval .one x).lo ≤ (t.extentInterval .two y).hi ∧
          (t.extentInterval .two y).lo ≤ (t.extentInterval .one x).hi) → ∀ c, (t.runway.get c).span = none) ∧
      ((∀ x y, (t.runway.get .one).lastX = some x → (t.runway.get .two).lastX = some y →
          (t.extentInterval .one x).hi < (t.extentInterval .two y).lo ∨
          (t.extentInterval .two y).hi < (t.extentInterval .one x).lo) →
        ∀ c, (t.runway.get c).span =
          (t.runway.get c).lastX.map fun x => { kind := .rest, range := t.extentInterval c x }) ∧
      (∀ b, t.permit.get b = t.permitDue b ∧ t.beacon.get b = t.beaconDue b) ∧ (∀ c, t.motion.get c = t.motionDue c) ∧
      { t with part := s.part, validMark := s.validMark, committed := s.committed, nextTick := s.nextTick,
               ticked := s.ticked, runway := s.runway, permit := s.permit, beacon := s.beacon, motion := s.motion, quiesce := s.quiesce } =
        s.after r .configEnd .ok .empty))

/-- A table entry or centre that CONFIG WRITE carries in range is staged and nothing else changes; a zone whose bounds are
out of order or range is RANGE, and a grade entry that records refer to is IN_USE unless its content is the committed one. A
setting in its range is staged and nothing else changes; a runway length or silence limit outside its range, and a period
that is no multiple of 100 ms, are RANGE. -/
def Obligations.ConfigWritesStageTheirItem : Prop :=
  (∀ (s : State) (r : Req), s.ready r .office .config →
    (∀ i x y v lo hi ls, i < 16 → x < y → y ≤ 400000 → lo < hi → hi ≤ 400000 → 1 ≤ ls.length → ls.length ≤ 8 →
      (∀ n ∈ ls, n < 48) → ls.Nodup →
      exec (.configWriteZone r i ⟨v, x, y, .stacking ls.length lo hi ls⟩) s = .next { s.after r .configWrite .ok .empty with
        staged := { s.staged with zones := s.staged.zones.setIfInBounds i ⟨v, x, y, .stacking ls.length lo hi ls⟩ } }) ∧
    (∀ i x y v b st, i < 16 → x < y → y ≤ 400000 →
      exec (.configWriteZone r i ⟨v, x, y, .station (Bed.number b) (Station.code st)⟩) s =
        .next { s.after r .configWrite .ok .empty with
          staged := { s.staged with zones := s.staged.zones.setIfInBounds i ⟨v, x, y, .station b st⟩ } }) ∧
    (∀ i x y v z, y ≤ x ∨ 400000 < y →
      exec (.configWriteZone r i ⟨v, x, y, z⟩) s = .next (s.after r .configWrite .range .empty)) ∧
    (∀ i x y v z z', i < 16 → x < y → y ≤ 400000 →
      (z = .infeed ∧ z' = .infeed) ∨ (z = .scrap ∧ z' = .scrap) ∨ (z = .park ∧ z' = .park) →
      exec (.configWriteZone r i ⟨v, x, y, z⟩) s = .next { s.after r .configWrite .ok .empty with
        staged := { s.staged with zones := s.staged.zones.setIfInBounds i ⟨v, x, y, z'⟩ } }) ∧
    (∀ i z l x y n m, i < 48 → z < 16 → l < 8 → x ≤ 400000 → y ≤ 400000 → 1 ≤ n → n ≤ 16 → 50 ≤ m → m ≤ 1000 →
      exec (.configWriteStack r i ⟨z, l, x, y, n, m⟩) s = .next { s.after r .configWrite .ok .empty with
        staged := { s.staged with stackTable := s.staged.stackTable.setIfInBounds i ⟨z, l, ⟨x, y⟩, n, m⟩ } }) ∧
    (∀ b st x y, x ≤ 400000 → y ≤ 400000 →
      exec (.configWriteStationCentre r (Bed.number b) (Station.code st) x y) s =
        .next { s.after r .configWrite .ok .empty with
          staged := { s.staged with stationCentres :=
            s.staged.stationCentres.set b ((s.staged.stationCentres.get b).set st ⟨x, y⟩) } }) ∧
    (∀ i v name d, i < 16 → textOk 8 name = true → 100 ≤ d → d ≤ 2000 →
      (∀ j q, (s.slot j).content = some q → q.grade ≠ i) ∨ s.committed.grade i = ⟨v, name, d⟩ →
      exec (.configWriteGrade r i ⟨v, name, d⟩) s = .next { s.after r .configWrite .ok .empty with
        staged := { s.staged with grades := s.staged.grades.setIfInBounds i ⟨v, name, d⟩ } }) ∧
    (∀ i v name d j q, i < 16 → textOk 8 name = true → 100 ≤ d → d ≤ 2000 → (s.slot j).content = some q → q.grade = i →
      s.committed.grade i ≠ ⟨v, name, d⟩ →
      exec (.configWriteGrade r i ⟨v, name, d⟩) s = .next (s.after r .configWrite .inUse .empty)) ∧
    (∀ x y, x ≤ 400000 → y ≤ 400000 →
      exec (.configWriteInfeedCentre r x y) s = .next { s.after r .configWrite .ok .empty with
        staged := { s.staged with infeedCentre := ⟨x, y⟩ } } ∧
      exec (.configWriteScrapCentre r x y) s = .next { s.after r .configWrite .ok .empty with
        staged := { s.staged with scrapCentre := ⟨x, y⟩ } })) ∧
  (∀ (s : State) (r : Req), s.ready r .office .config →
    (∀ v, 10000 ≤ v → v ≤ 400000 → exec (.configWriteRunwayLength r v) s = .next { s.after r .configWrite .ok .empty with
      staged := { s.staged with runway := v } }) ∧
    (∀ v, v < 10000 ∨ 400000 < v →
      exec (.configWriteRunwayLength r v) s = .next (s.after r .configWrite .range .empty)) ∧
    (∀ c v, 1000 ≤ v → v ≤ 60000 → exec (.configWriteCraneParameter r (Crane.number c) .swl v) s =
      .next { s.after r .configWrite .ok .empty with
        staged := { s.staged with cranes := s.staged.cranes.set c { s.staged.cranes.get c with swl := v } } }) ∧
    (∀ c v, v ≤ 10000 → exec (.configWriteCraneParameter r (Crane.number c) .tare v) s =
      .next { s.after r .configWrite .ok .empty with
        staged := { s.staged with cranes := s.staged.cranes.set c { s.staged.cranes.get c with tare := v } } }) ∧
    (∀ c v, 500 ≤ v → v ≤ 15000 → exec (.configWriteCraneParameter r (Crane.number c) .halfLength v) s =
      .next { s.after r .configWrite .ok .empty with
        staged := { s.staged with cranes := s.staged.cranes.set c { s.staged.cranes.get c with halfLength := v } } }) ∧
    (∀ c v, v ≤ 5000 → exec (.configWriteCraneParameter r (Crane.number c) .clearance v) s =
      .next { s.after r .configWrite .ok .empty with
        staged := { s.staged with cranes := s.staged.cranes.set c { s.staged.cranes.get c with clearance := v } } }) ∧
    (∀ k v, 100 ≤ v → v ≤ 60000 → 100 ∣ v → exec (.configWriteTimeoutPeriod r k v) s =
      .next { s.after r .configWrite .ok .empty with staged := { s.staged with periods := s.staged.periods.set k v } }) ∧
    (∀ k v, ¬100 ∣ v → exec (.configWriteTimeoutPeriod r k v) s = .next (s.after r .configWrite .range .empty)) ∧
    (∀ b v, 5 ≤ v → v ≤ 500 → exec (.configWriteConsumableSetting r (Bed.number b) .minArc v) s =
      .next { s.after r .configWrite .ok .empty with
        staged := { s.staged with
          consumables := s.staged.consumables.set b { s.staged.consumables.get b with minArc := v } } }) ∧
    (∀ b v, v ≤ 65535 → exec (.configWriteConsumableSetting r (Bed.number b) .warnPierces v) s =
      .next { s.after r .configWrite .ok .empty with
        staged := { s.staged with
          consumables := s.staged.consumables.set b { s.staged.consumables.get b with warnPierces := v } } }) ∧
    (∀ b v, v ≤ 65535 → exec (.configWriteConsumableSetting r (Bed.number b) .holdPierces v) s =
      .next { s.after r .configWrite .ok .empty with
        staged := { s.staged with
          consumables := s.staged.consumables.set b { s.staged.consumables.get b with holdPierces := v } } }) ∧
    (∀ b v, v ≤ 4294967 → exec (.configWriteConsumableSetting r (Bed.number b) .warnSeconds v) s =
      .next { s.after r .configWrite .ok .empty with
        staged := { s.staged with
          consumables := s.staged.consumables.set b { s.staged.consumables.get b with warnSeconds := v } } }) ∧
    (∀ b v, v ≤ 4294967 → exec (.configWriteConsumableSetting r (Bed.number b) .holdSeconds v) s =
      .next { s.after r .configWrite .ok .empty with
        staged := { s.staged with
          consumables := s.staged.consumables.set b { s.staged.consumables.get b with holdSeconds := v } } }) ∧
    (∀ b m, exec (.configWriteBeaconSetting r (Bed.number b) (.mode m)) s =
      .next { s.after r .configWrite .ok .empty with
        staged := { s.staged with beacons := s.staged.beacons.set b { s.staged.beacons.get b with mode := m } } }) ∧
    (∀ b p, exec (.configWriteBeaconSetting r (Bed.number b) (.polarity p)) s =
      .next { s.after r .configWrite .ok .empty with
        staged := { s.staged with beacons := s.staged.beacons.set b { s.staged.beacons.get b with polarity := p } } }) ∧
    (∀ v, 200 ≤ v → v ≤ 20000 → exec (.configWriteMinimumRemnant r .length v) s =
      .next { s.after r .configWrite .ok .empty with staged := { s.staged with minLength := v } }) ∧
    (∀ v, 100 ≤ v → v ≤ 4800 → exec (.configWriteMinimumRemnant r .width v) s =
      .next { s.after r .configWrite .ok .empty with staged := { s.staged with minWidth := v } }) ∧
    (∀ v, 50 ≤ v → v ≤ 5000 → exec (.configWriteSilenceLimit r v) s =
      .next { s.after r .configWrite .ok .empty with staged := { s.staged with silenceLimit := v } }) ∧
    (∀ v, v < 50 ∨ 5000 < v → exec (.configWriteSilenceLimit r v) s = .next (s.after r .configWrite .range .empty)))

/-- A configuration that CONFIG END accepts: valid zones end on the runway and share no x, each station has exactly one and
its centre decodes to it, every stack with records is in use and holds them within its limits, every grade in use is valid,
and each crane's SWL is in range above its tare. -/
def Obligations.AcceptedConfigurationIsSound : Prop :=
  ∀ (s : State) (c : HallConfig), s.validation c = none →
    (∀ i, i < 16 → (c.zone i).valid = true → (c.zone i).xHi ≤ c.runway) ∧
    (∀ i j x, i < 16 → j < 16 → i ≠ j → (c.zone i).valid = true → (c.zone j).valid = true →
      ¬((c.zone i).xLo ≤ x ∧ x < (c.zone i).xHi ∧ (c.zone j).xLo ≤ x ∧ x < (c.zone j).xHi)) ∧
    (∀ b st, ∃ i, i < 16 ∧ (c.zone i).valid = true ∧ (c.zone i).kind = .station b st ∧
      ∀ j, j < 16 → (c.zone j).valid = true → (c.zone j).kind = .station b st → j = i) ∧
    (∀ b st p, p = (c.stationCentres.get b).get st → c.placeAt p.x p.y = some (.station b st)) ∧
    (∀ n, n < 48 → s.pile n ≠ [] → c.inUse n = true ∧ (s.pile n).length ≤ (c.stack n).countLimit ∧
      ((s.pile n).map s.thicknessOf).sum ≤ (c.stack n).heightLimit) ∧
    (∀ i q, (s.slot i).content = some q → q.grade < 16 → (c.grade q.grade).valid = true) ∧
    (∀ k, 1000 ≤ (c.cranes.get k).swl ∧ (c.cranes.get k).swl ≤ 60000 ∧ (c.cranes.get k).tare < (c.cranes.get k).swl)

/-- ERASE empties every place and frees every record, keeping every generation; it returns the consumable records, the active
stations and every setting, staged and committed, to their defaults, and clears the valid mark. Lines, arcs, faults, spans
and quiesce items stand. -/
def Obligations.EraseForgetsTheHall : Prop :=
  ∀ (s : State) (r : Req), s.ready r .office .config → ∃ t, exec (.erase r) s = .next t ∧
    (∀ i, (t.slot i).content = none ∧ (t.slot i).gen = (s.slot i).gen) ∧ (∀ p, t.listAt p = []) ∧
    (∀ b st, (t.station b st).skeleton = false ∧ (t.station b st).skeletonMass = 0) ∧
    (∀ b, t.consumables.get b = { pierces := 0, arcTime := 0, misfires := 0, state := .ok } ∧ t.active.get b = .a) ∧
    t.committed = defaultConfig ∧ t.staged = defaultConfig ∧ t.validMark = false ∧
    { t with slots := s.slots, piles := s.piles, stations := s.stations, infeed := s.infeed, hooks := s.hooks,
             consumables := s.consumables, active := s.active, committed := s.committed, staged := s.staged,
             validMark := s.validMark } = s.after r .erase .ok .empty

/-! ### The beds -/

/-- SELECT STATION of a bed without a claim, with no granted order span over the station but of an order that holds the bed,
makes the station active; a claim makes it HELD and such a span CRANE_OVER. CONSUMABLES CHANGED with the arc OFF starts a new
consumable record and tells the office; with the arc ON it is ARC_ON. -/
def Obligations.BedSelectsItsStationAndRenewsItsTorch : Prop :=
  (∀ (s : State) (r : Req) (b : Bed) (st : Station), s.ready r (.bed b) .run →
    (s.claims.get b ≠ none → exec (.selectStation r st.code) s = .next (s.after r .selectStation .held .empty)) ∧
    (s.claims.get b = none →
      ((∀ e o w, s.orderAt e = some o → o.spanHeld = true → o.sweep = some w → s.stationUnder b st w.span = true →
          (s.quiesce.get b).holders.order.get o.crane = some o.tag) →
        exec (.selectStation r st.code) s = .next { s.after r .selectStation .ok .empty with
          active := s.active.set b st }) ∧
      (∀ e o w, s.orderAt e = some o → o.spanHeld = true → o.sweep = some w → s.stationUnder b st w.span = true →
        (s.quiesce.get b).holders.order.get o.crane ≠ some o.tag →
        exec (.selectStation r st.code) s = .next (s.after r .selectStation .craneOver .empty)))) ∧
  (∀ (s : State) (r : Req) (b : Bed), s.ready r (.bed b) .run →
    ((s.arcs.get b).rise ≠ none →
      exec (.consumablesChanged r) s = .next (s.after r .consumablesChanged .arcOn .empty)) ∧
    ((s.arcs.get b).rise = none → ∃ t, exec (.consumablesChanged r) s = .next t ∧
      t.permit.get b = t.permitDue b ∧ t.beacon = s.beacon.set b (t.beaconDue b) ∧
      { t with permit := s.permit, quiesce := s.quiesce, beacon := s.beacon } =
        { s.after r .consumablesChanged .ok .empty with
          consumables := s.consumables.set b { pierces := 0, arcTime := 0, misfires := 0, state := .ok } }.notify .office
            (.consumable b .ok [.changed] 0 0 0)))

/-- CLAIM of the sole, unbooked, unquarantined record on the bed's active station, under a declaration whose parts fit the
plate: the record becomes CLAIMED, the bed holds a fresh nest record, and ARC PERMIT is evaluated. A repeat is HELD_BY_YOU
and a claim of another record HELD; NOT_HERE, SKELETON, SHARED, BOOKED, QUARANTINED, DUPLICATE and OVERRUN are refused in
this order. -/
def Obligations.ClaimTakesTheSolePlate : Prop :=
  ∀ (s : State) (r : Req) (b : Bed) (h : Handle) (q : Record) (n : NestArg), s.ready r (.bed b) .run → h.gen ≤ 63 →
    s.recordOf h = some q →
    (∀ m, s.claims.get b = some m → exec (.claim r h n) s =
      .next (s.after r .claim (if m.plate = h then .heldByYou else .held) .empty)) ∧
    (s.claims.get b = none →
      (h ∉ s.activeRecords b → exec (.claim r h n) s = .next (s.after r .claim .notHere .empty)) ∧
      (h ∈ s.activeRecords b → (s.station b (s.active.get b)).skeleton = true →
        exec (.claim r h n) s = .next (s.after r .claim .skeleton .empty)) ∧
      (h ∈ s.activeRecords b → (s.station b (s.active.get b)).skeleton = false → s.activeRecords b ≠ [h] →
        exec (.claim r h n) s = .next (s.after r .claim .shared .empty)) ∧
      (s.activeRecords b = [h] → (s.station b (s.active.get b)).skeleton = false →
        (∀ e o i, s.orderAt e = some o → o.inbound = some i → i.place ≠ .station b (s.active.get b)) →
        (q.booking ≠ none → exec (.claim r h n) s = .next (s.after r .claim .booked .empty)) ∧
        (q.booking = none → q.quarantine = true →
          exec (.claim r h n) s = .next (s.after r .claim .quarantined .empty)) ∧
        (q.booking = none → q.quarantine = false → n.countAgain = n.count → n.parts.length = n.count → 1 ≤ n.count →
          n.count ≤ 64 → textOk 16 n.name = true →
          (∀ p ∈ n.parts, textOk 16 p.mark = true ∧ 1 ≤ p.area ∧ p.area ≤ 960000 ∧ p.mode ≠ .other) →
          (¬(n.parts.map (·.mark)).Nodup → exec (.claim r h n) s = .next (s.after r .claim .duplicate .empty)) ∧
          ((n.parts.map (·.mark)).Nodup → q.length * q.width / 100 < (n.parts.map (·.area)).sum →
            exec (.claim r h n) s = .next (s.after r .claim .overrun .empty)) ∧
          ((n.parts.map (·.mark)).Nodup → (n.parts.map (·.area)).sum ≤ q.length * q.width / 100 →
            ∃ t, exec (.claim r h n) s = .next t ∧ t.permit = s.permit.set b (t.permitDue b) ∧
              (∀ k, (t.quiesce.get k).state = (s.quiesce.get k).state) ∧
              { t with permit := s.permit, quiesce := s.quiesce } = { s.after r .claim .ok .empty with
                slots := s.slots.setIfInBounds h.index ⟨h.gen, some { q with custody := .claimed b }⟩
                claims := s.claims.set b (some
                  { plate := h, name := n.name, area := q.length * q.width / 100, pierces := 0, arcTime := 0,
                    parts := n.parts.map fun p =>
                      { mark := p.mark, area := p.area, marking := decide (p.mode = .mark),
                        state := if p.mode = .mark then .pending else .noMark, attempts := 0, cut := false } }) }))))

/-- Marking and cutting a nest, part by part: NEXT MARK hands out the ISSUED part again or issues the first PENDING one,
under no E-STOP and no open session; MARKED makes it MARKED and the record WORKED; MARK FAILED returns it to PENDING, at the
third attempt to FAILED with its notice; CUT DONE sets the cut flag of a part that may be cut. -/
def Obligations.NestPartsAreMarkedThenCut : Prop :=
  ∀ (s : State) (r : Req) (b : Bed) (n : Nest) (q : Record), s.ready r (.bed b) .run → s.claims.get b = some n →
    s.recordOf n.plate = some q →
    (s.eStop = true → exec (.nextMark r) s = .next (s.after r .nextMark .estop .empty)) ∧
    (s.eStop = false → (s.quiesce.get b).state ≠ .running →
      exec (.nextMark r) s = .next (s.after r .nextMark .quiesced .empty)) ∧
    (s.eStop = false → (s.quiesce.get b).state = .running →
      (∀ i v, n.parts[i]? = some v → v.state = .issued → (∀ j u, j < i → n.parts[j]? = some u → u.state ≠ .issued) →
        exec (.nextMark r) s = .next (s.after r .nextMark .ok (.mark
          ⟨i + 1, v.mark, v.attempts + 1, q.heat, (s.committed.grade q.grade).name, n.plate, n.name⟩))) ∧
      ((∀ u ∈ n.parts, u.state ≠ .issued) →
        (∀ i v, n.parts[i]? = some v → v.state = .pending → (∀ j u, j < i → n.parts[j]? = some u → u.state ≠ .pending) →
          exec (.nextMark r) s = .next { s.after r .nextMark .ok (.mark
              ⟨i + 1, v.mark, v.attempts + 1, q.heat, (s.committed.grade q.grade).name, n.plate, n.name⟩) with
            claims := s.claims.set b (some { n with parts := n.parts.set i { v with state := .issued } }) }) ∧
        ((∀ u ∈ n.parts, u.state ≠ .pending) → exec (.nextMark r) s = .next (s.after r .nextMark .none_ .empty)))) ∧
    (∀ i v, n.parts[i]? = some v →
      (v.state = .issued → q.custody = .worked b → exec (.marked r (i + 1)) s = .next { s.after r .marked .ok .empty with
        claims := s.claims.set b (some { n with parts := n.parts.set i { v with state := .marked } }) }) ∧
      (v.state = .issued → q.custody = .claimed b → s.recallOf n.plate = none →
        exec (.marked r (i + 1)) s = .next { s.after r .marked .ok .empty with
          slots := s.slots.setIfInBounds n.plate.index ⟨n.plate.gen, some { q with custody := .worked b }⟩
          claims := s.claims.set b (some { n with parts := n.parts.set i { v with state := .marked } }) }) ∧
      (v.state = .marked → exec (.marked r (i + 1)) s = .next (s.after r .marked .ok .empty)) ∧
      (v.state = .issued → v.attempts + 1 < 3 →
        exec (.markFailed r (i + 1)) s = .next { s.after r .markFailed .ok (.markState .pending) with
          claims := s.claims.set b
            (some { n with parts := n.parts.set i { v with state := .pending, attempts := v.attempts + 1 } }) }) ∧
      (v.state = .issued → 3 ≤ v.attempts + 1 →
        exec (.markFailed r (i + 1)) s = .next
          ({ s.after r .markFailed .ok (.markState .failed) with
              claims := s.claims.set b
                (some { n with parts := n.parts.set i { v with state := .failed, attempts := v.attempts + 1 } }) }.notify
            .office (.markFailed n.plate q.heat b n.name (i + 1) v.mark))) ∧
      (v.state = .marked ∨ v.state = .waived ∨ v.state = .noMark →
        exec (.cutDone r (i + 1)) s = .next { s.after r .cutDone .ok .empty with
          claims := s.claims.set b (some { n with parts := n.parts.set i { v with cut := true } }) }) ∧
      (v.state = .pending ∨ v.state = .issued ∨ v.state = .failed →
        exec (.cutDone r (i + 1)) s = .next (s.after r .cutDone .unmarked .empty)))

/-- RELEASE, and a RETURN without a cut part, end the claim: a CLAIMED record goes back to REST as it was, a WORKED one
incomplete and quarantined with its INCOMPLETE notice; ARC PERMIT falls. A RELEASE in STOPPING takes the session on to
PARKING, and one of another live record is STATE. A RELEASE of a record with an order in its wait slot books it for that order
and clears the slot. The order waits on while another of its records is not booked by it. With all of them booked it asks for
its span: pending while the hull with its crane's span overlaps the other crane's, else granted. An order whose records no
longer stand as its source names them ends REFUSED(NOT_TOP) and lets the record go. -/
def Obligations.ReleaseGivesThePlateBack : Prop :=
  (∀ (s : State) (r : Req) (b : Bed) (n : Nest) (q : Record) (p c : Nat), s.ready r (.bed b) .run →
    s.claims.get b = some n → n.plate.gen ≤ 63 → s.recordOf n.plate = some q → q.waitSlot = none →
    s.recallOf n.plate = none →
    ((s.quiesce.get b).state ≠ .stopping → q.custody = .claimed b → ∀ (k : RequestKind) (i : Instr), (k = .release ∧ i = .release r n.plate) ∨
        (k = .return_ ∧ i = .return_ r n.plate ⟨0, [], p, c⟩) →
      exec i s = .next { s.after r k .ok .empty with
        slots := s.slots.setIfInBounds n.plate.index ⟨n.plate.gen, some { q with custody := .rest }⟩
        claims := s.claims.set b none
        permit := s.permit.set b false }) ∧
    ((s.quiesce.get b).state ≠ .stopping → q.custody = .worked b → ∀ (k : RequestKind) (i : Instr), (k = .release ∧ i = .release r n.plate) ∨
        (k = .return_ ∧ i = .return_ r n.plate ⟨0, [], p, c⟩ ∧ ∀ v ∈ n.parts, v.cut = false) →
      exec i s = .next
        ({ s.after r k .ok .empty with
            slots := s.slots.setIfInBounds n.plate.index
              ⟨n.plate.gen, some { q with custody := .rest, incomplete := true, quarantine := true }⟩
            claims := s.claims.set b none
            permit := s.permit.set b false }.notify .office
          (.incomplete n.plate q.heat b (n.parts.filter fun (v : Part) => v.state = MarkState.marked).length
            (n.parts.filter Part.cut).length n.pierces n.arcTime))) ∧
    ((s.quiesce.get b).state = .stopping → q.custody = .claimed b → ∃ t, exec (.release r n.plate) s = .next t ∧
      t.beacon = s.beacon.set b (t.beaconDue b) ∧
      { t with beacon := s.beacon } =
        { s.after r .release .ok .empty with
            slots := s.slots.setIfInBounds n.plate.index ⟨n.plate.gen, some { q with custody := .rest }⟩
            claims := s.claims.set b none
            quiesce := s.quiesce.set b { s.quiesce.get b with
              state := .parking, allowance := false, parked := false, timer := some { age := 0 } }
            permit := s.permit.set b false }.notify (.bed b) (.park (s.quiesce.get b).session)) ∧
    (∀ h q', h ≠ n.plate → h.gen ≤ 63 → s.recordOf h = some q' →
      exec (.release r h) s = .next (s.after r .release .state .empty))) ∧
  (∀ (s : State) (r : Req) (b : Bed) (n : Nest) (q q' : Record) (c : Crane) (e : Nat) (o : Order) (named : Prop),
    s.ready r (.bed b) .run → s.claims.get b = some n → n.plate.gen ≤ 63 → s.recordOf n.plate = some q →
    q.custody = .claimed b ∨ q.custody = .worked b → q.booking = none → q.waitSlot = some ⟨c, o.tag⟩ →
    s.recallOf n.plate = none → s.findOrder ⟨c, o.tag⟩ = some (e, o) →
    q' = { q with
      custody := .rest
      incomplete := q.incomplete || q.custody = .worked b
      quarantine := q.quarantine || q.custody = .worked b } →
    (named ↔ ∀ p, o.source = some p → ∀ h ∈ o.records, h ∈ s.liftable p o.count) →
    ∃ t, exec (.release r n.plate) s = .next t ∧ t.txAnswer = some ⟨r.link, .release, r.tag, .ok, .empty⟩ ∧
      t.claims = s.claims.set b none ∧ t.piles = s.piles ∧ t.stations = s.stations ∧ t.infeed = s.infeed ∧ t.hooks = s.hooks ∧
      (named → t.recordOf n.plate = some { q' with booking := some ⟨c, o.tag⟩, waitSlot := none } ∧
        (∀ h, h ≠ n.plate → t.recordOf h = s.recordOf h) ∧
        (s.activeOrder c = some (e, o) →
          (∃ h ∈ o.records, h ≠ n.plate ∧ ∀ v, s.recordOf h = some v → v.booking ≠ some ⟨c, o.tag⟩) →
          t.orderAt e = some o ∧ t.runway = s.runway) ∧
        (∀ w v u hull, s.activeOrder c = some (e, o) → o.stage = .reserving → o.redirect = none → o.spanHeld = false →
          o.sweep = some w → (s.runway.get c).span = some v → (s.runway.get c.other).span = some u →
          (∀ h ∈ o.records, h ≠ n.plate → ∃ v, s.recordOf h = some v ∧ v.booking = some ⟨c, o.tag⟩) →
          hull = (⟨min w.span.lo v.range.lo, max w.span.hi v.range.hi⟩ : Interval) →
          (hull.lo ≤ u.range.hi → u.range.lo ≤ hull.hi → t.orderAt e = some o ∧
            t.runway = s.runway.set c { s.runway.get c with request := some ⟨o.tag, w⟩ }) ∧
          (hull.hi < u.range.lo ∨ u.range.hi < hull.lo → (s.runway.get c.other).request = none →
            t.runway = s.runway.set c { s.runway.get c with span := some ⟨.move, hull⟩, request := none } ∧
            (∃ o', t.orderAt e = some o' ∧ o'.spanHeld = true) ∧
            ((∀ d, s.bedUnder d w.span = false ∧ (s.quiesce.get d).holders.order.get c ≠ some o.tag) →
              t.orderAt e = some (s.leftReserving { o with spanHeld := true }))))) ∧
      (¬named → n.plate ∈ o.records → (∀ d p, s.orderAt d = some p → p.stage ≠ .queued) →
        t.entry e = none ∧ t.recordOf n.plate = some { q' with booking := none, waitSlot := none } ∧
        ((s.links.get (.crane c)).queue.length < 14 → (∀ d p, s.orderAt d = some p → p.crane = c → d = e) →
          .orderEnd ⟨c, o.tag, .refusedNotTop, none, o.short, o.left, o.extras⟩ ∈ (t.links.get (.crane c)).queue)))

/-- A cut RETURN of a WORKED plate with a cut part, with one or two rectangles of remnant size and slots for them, or none:
the plate is gone, each rectangle is a record of its own on the station in declaration order, the station carries a skeleton
of the scrap's mass, the claim has ended, and NEST DONE tells the areas and the yield; when more area is cut and left than
the plate has, the return is OVERRUN. -/
def Obligations.CutReturnTurnsThePlateIntoRemnants : Prop :=
  ∀ (s : State) (r : Req) (b : Bed) (n : Nest) (q : Record) (rects : List Rect) (p c cut left : Nat),
    s.ready r (.bed b) .run → s.claims.get b = some n → n.plate.gen ≤ 63 → s.recordOf n.plate = some q →
    q.custody = .worked b → (∃ v ∈ n.parts, v.cut = true) → rects.length ≤ 2 →
    (∀ x ∈ rects, s.committed.minLength ≤ x.l ∧ 1 ≤ x.l ∧ x.l ≤ 20000 ∧ s.committed.minWidth ≤ x.w ∧ 1 ≤ x.w ∧
      x.w ≤ 4800 ∧ x.x ≤ 20000 ∧ x.y ≤ 4800 ∧ x.x + x.l ≤ q.length ∧ x.y + x.w ≤ q.width) →
    rects.Pairwise (fun x y => x.x + x.l ≤ y.x ∨ y.x + y.l ≤ x.x ∨ x.y + x.w ≤ y.y ∨ y.y + y.w ≤ x.y) →
    rects.length ≤ s.freeSlots.length + 1 →
    cut = ((n.parts.filter (·.cut)).map (·.area)).sum → left = (rects.map fun x => x.l * x.w / 100).sum →
    (n.area < cut + left → exec (.return_ r n.plate ⟨rects.length, rects, p, c⟩) s =
      .next (s.after r .return_ .overrun .empty)) ∧
    (cut + left ≤ n.area → q.waitSlot = none → s.recallOf n.plate = none → (s.quiesce.get b).state ≠ .stopping →
      s.activeRecords b = [n.plate] →
      ∃ t hs mass, exec (.return_ r n.plate ⟨rects.length, rects, p, c⟩) s = .next t ∧
        t.txAnswer = some ⟨r.link, .return_, r.tag, .ok, .cutReturn (hs.map .remnant) mass⟩ ∧
        hs.length = rects.length ∧
        t.station b (s.active.get b) = { records := hs, skeleton := true, skeletonMass := mass } ∧
        (n.area - cut - left) * 100 * q.thickness * (s.committed.grade q.grade).density ≤ 10 ^ 8 * mass ∧
        10 ^ 8 * mass < (n.area - cut - left) * 100 * q.thickness * (s.committed.grade q.grade).density + 10 ^ 8 ∧
        t.recordOf n.plate = none ∧ t.claims.get b = none ∧ t.permit.get b = false ∧
        (∀ (i : Nat) (x : Rect) (h : Handle), rects[i]? = some x → hs[i]? = some h → ∃ m,
          t.recordOf h = some
            { kind := .remnant, grade := q.grade, heat := q.heat, length := x.l, width := x.w, thickness := q.thickness,
              mass := m, parent := some n.plate, custody := .rest, booking := none, waitSlot := none,
              quarantine := q.quarantine, incomplete := false } ∧
          x.l * x.w * q.thickness * (s.committed.grade q.grade).density ≤ 10 ^ 8 * m ∧
          10 ^ 8 * m < x.l * x.w * q.thickness * (s.committed.grade q.grade).density + 10 ^ 8) ∧
        (s.mask.nest = true → (s.links.get .office).queue.length < 16 → ∃ d,
          (t.links.get .office).queue = (s.links.get .office).queue ++ [.nestDone d] ∧ d.plate = n.plate ∧
          d.areaPlate = n.area ∧ d.areaCut = cut ∧ d.areaRemnants = left ∧ d.areaScrap = n.area - cut - left ∧
          d.yield = 1000 * cut / n.area ∧ d.skeletonMass = mass ∧ d.rects = hs.map .remnant ∧
          d.parts = n.parts.map (fun v => (v.state, v.cut)) ∧ d.bedPierces = p ∧ d.bedCutTime = c))

/-- PARKED of the open session resets the age; with the arc ON it is recorded, with the arc OFF the bed becomes QUIESCED, a degraded
session is reported DEGRADED, and every holder is granted: an order that waited for this bed alone leaves RESERVING with ORDER
GRANTED (HALTED where causes stand), also when the orders of both cranes hold the bed, and the hall hold is reported HOLD COMPLETE
once both beds are QUIESCED for it, behind DEGRADED by the model's choice (log 33). Any other PARKED is LATE. -/
def Obligations.ParkedQuietsTheBed : Prop :=
  ∀ (s : State) (r : Req) (b : Bed) (m : Nat), s.ready r (.bed b) .run →
    ((s.quiesce.get b).state ≠ .parking ∨ (s.quiesce.get b).session ≠ m →
      exec (.parked r m) s = .next (s.after r .parked .late .empty)) ∧
    ((s.quiesce.get b).state = .parking → (s.quiesce.get b).session = m → (s.arcs.get b).rise ≠ none →
      exec (.parked r m) s = .next { s.after r .parked .ok .empty with
        quiesce := s.quiesce.set b { s.quiesce.get b with timer := some { age := 0 }, parked := true } }) ∧
    ((s.quiesce.get b).state = .parking → (s.quiesce.get b).session = m → (s.arcs.get b).rise = none →
      (s.quiesce.get b).holders = { order := ⟨none, none⟩, hall := true } → ∀ u v : State,
      u = { s.after r .parked .ok .empty with
        quiesce := s.quiesce.set b { s.quiesce.get b with state := .quiesced, timer := none }
        permit := s.permit.set b false } →
      v = (if (s.quiesce.get b).degraded = true then u.notify .office (.degraded b m [.hall]) else u) →
      ∃ t, exec (.parked r m) s = .next t ∧ t.beacon = s.beacon.set b (t.beaconDue b) ∧
        { t with beacon := s.beacon } = (match s.hold with
          | some (_, g) =>
            if (s.quiesce.get b.other).state = .quiesced ∧ (s.quiesce.get b.other).holders.hall = true then
              v.notify .office (.holdComplete g) else v
          | none => v)) ∧
    ((s.quiesce.get b).state = .parking → (s.quiesce.get b).session = m → (s.arcs.get b).rise = none →
      (∀ c tag, (s.quiesce.get b).holders.order.get c = some tag →
        ∃ e o, s.activeOrder c = some (e, o) ∧ o.tag = tag ∧ o.redirect = none) →
      ∃ t, exec (.parked r m) s = .next t ∧ t.txAnswer = some ⟨r.link, .parked, r.tag, .ok, .empty⟩ ∧
        t.quiesce = s.quiesce.set b { s.quiesce.get b with state := .quiesced, timer := none } ∧ t.permit.get b = false ∧
        (∀ e o, WaitsOnlyFor s b e o → t.orderAt e = some (s.leftReserving o) ∧
          ((s.links.get (.crane o.crane)).queue.length < 15 → ∃ g, (t.links.get (.crane o.crane)).queue =
              (s.links.get (.crane o.crane)).queue ++ .orderGranted g ::
                (if s.causesOnLeaving o = noCauses then []
                 else [.orderHalted o.tag (s.causesOnLeaving o) o.entryStage]) ∧ g.tag = o.tag ∧
            g.stage = (if s.causesOnLeaving o = noCauses then (if o.entryStage = .carry then .carry else .pickup) else .halted) ∧
            (∀ w, o.sweep = some w → g.span = w.span ∧ g.corridor = w.corridor) ∧ g.held.get b = true)) ∧
        (∀ d, (∀ o, s.orderAt d = some o → ¬WaitsOnlyFor s b d o) → t.entry d = s.entry d) ∧
        ((s.links.get .office).queue.length < 15 → (t.links.get .office).queue = (s.links.get .office).queue ++
          (if (s.quiesce.get b).degraded = true ∧ s.mask.fault = true then
            [.degraded b m (s.quiesce.get b).holders.members] else []) ++
          (match s.hold with
            | some (_, g) =>
              if (s.quiesce.get b).holders.hall = true ∧ (s.quiesce.get b.other).state = .quiesced ∧
                (s.quiesce.get b.other).holders.hall = true then [.holdComplete g] else []
            | none => [])) ∧
        t.slots = s.slots ∧ t.runway = s.runway ∧ t.claims = s.claims)

/-- How a recall ends. YIELD of the recalled record gives it back: at REST, the claim and nest record gone, ARC PERMIT down, the
recall's entry freed with RECALL END DONE. REFUSE, and the recall's expiry, free the entry with RECALL END KEPT or NO_ANSWER and
the record's custody, and change nothing else. A YIELD or REFUSE without an outstanding recall is LATE. -/
def Obligations.RecallsEndByTheirBedOrTheirTime : Prop :=
  (∀ (s : State) (e : Nat) (c : Recall), s.recallOf c.handle = some (e, c) → AtItsTick s e .answer →
    exec (.recallExpiry e) s = .next
      ({ s with
          shared := s.shared.setIfInBounds (e - 2) none
          ticked := s.ticked.set .answer (s.ticked.answer ++ [e])
          txAnswer := none
          txNotice := none }.notify .office
        (.recallEnd c.tag c.handle .noAnswer (s.custodyOf c.handle)))) ∧
  (∀ (s : State) (r : Req) (b : Bed) (h : Handle) (n : Nest) (q : Record) (e : Nat) (c : Recall),
    s.ready r (.bed b) .run → h.gen ≤ 63 → s.recordOf h = some q → s.claims.get b = some n → n.plate = h →
    s.recallOf h = some (e, c) → c.bed = b →
    exec (.refuse r h) s = .next
      ({ s.after r .refuse .ok .empty with shared := s.shared.setIfInBounds (e - 2) none }.notify .office
        (.recallEnd c.tag h .kept (some q.custody)))) ∧
  (∀ (s : State) (r : Req) (b : Bed) (h : Handle) (q : Record), s.ready r (.bed b) .run → h.gen ≤ 63 →
    s.recordOf h = some q →
    ((∀ n, s.claims.get b = some n → n.plate ≠ h) ∨ s.recallOf h = none →
      exec (.yield r h) s = .next (s.after r .yield .late .empty) ∧
      exec (.refuse r h) s = .next (s.after r .refuse .late .empty)) ∧
    (∀ n e c, s.claims.get b = some n → n.plate = h → s.recallOf h = some (e, c) → c.bed = b → q.waitSlot = none →
      (s.quiesce.get b).state ≠ .stopping →
      exec (.yield r h) s = .next
        ({ s.after r .yield .ok .empty with
            slots := s.slots.setIfInBounds h.index ⟨h.gen, some { q with custody := .rest }⟩
            claims := s.claims.set b none
            permit := s.permit.set b false
            shared := s.shared.setIfInBounds (e - 2) none }.notify .office
          (.recallEnd c.tag h .done (some .rest)))))

/-! ### The cranes -/

/-- The checks of R153 on a MOVE, SKELETON or TRAVEL, with or without an active order. Numbers outside their ranges are RANGE,
a place type or crane number outside its set by the model's reading (log 23); a live tag is TAG_IN_USE, two orders live LIMIT,
no entry free FULL, and with ORPHANED records on the hook and no MOVE of that source live any but a MOVE with source HOOK is
HOOK_LOADED. A new order behind an active one that passes them is QUEUED at the lowest free entry, and holds nothing. -/
def Obligations.NewOrdersQueueBehindTheActive : Prop :=
  ∀ (s : State) (r : Req) (c : Crane), s.ready r (.crane c) .run →
    (r.tag = 0 ∨ 255 < r.tag →
      (∀ x, exec (.travel r x) s = .next (s.after r .travel .range .empty)) ∧
      (∀ b st, exec (.skeleton r b st) s = .next (s.after r .skeleton .range .empty)) ∧
      (∀ p k q, exec (.move r p k q) s = .next (s.after r .move .range .empty))) ∧
    (∀ b st, b = 0 ∨ 2 < b ∨ 1 < st → exec (.skeleton r b st) s = .next (s.after r .skeleton .range .empty)) ∧
    (∀ p k q, k = 0 ∨ 4 < k ∨ placeOfArg p = none ∨ placeOfArg q = none →
      exec (.move r p k q) s = .next (s.after r .move .range .empty)) ∧
    (∀ (i : Instr) (k : RequestKind) (o : Order), 1 ≤ r.tag → r.tag ≤ 255 →
      (∃ x, i = .travel r x ∧ k = .travel ∧ o = newOrder c r.tag .travel none 0 (.x x)) ∨
        (∃ b st, i = .skeleton r (Bed.number b) (Station.code st) ∧ k = .skeleton ∧
          o = newOrder c r.tag .skeleton (some (.station b st)) 0 (.place .scrap)) ∨
        (∃ p q n p' q', i = .move r p n q ∧ k = .move ∧ 1 ≤ n ∧ n ≤ 4 ∧ placeOfArg p = some p' ∧ placeOfArg q = some q' ∧
          o = newOrder c r.tag .move (some p') n (.place q')) →
      (r.tag ∈ s.craneTags c → exec i s = .next (s.after r k .tagInUse .empty)) ∧
      (r.tag ∉ s.craneTags c → 2 ≤ (s.craneTags c).length → exec i s = .next (s.after r k .limit .empty)) ∧
      (r.tag ∉ s.craneTags c → (s.craneTags c).length < 2 → (∀ d, 2 ≤ d → d ≤ 7 → s.entry d ≠ none) →
        exec i s = .next (s.after r k .full .empty)) ∧
      (∀ e, r.tag ∉ s.craneTags c → (s.craneTags c).length < 2 → 2 ≤ e → e ≤ 7 → s.entry e = none →
        (∀ d, 2 ≤ d → d < e → s.entry d ≠ none) →
        ((∃ h ∈ s.hook c, s.custodyOf h = some (.orphaned c)) →
          (∀ d p, s.orderAt d = some p → p.crane = c → ¬(p.kind = .move ∧ p.source = some (.hook c))) →
          (∀ d, o.source ≠ some (.hook d)) → exec i s = .next (s.after r k .hookLoaded .empty)) ∧
        (s.activeOrder c ≠ none →
          (∀ h ∈ s.hook c, s.custodyOf h ≠ some (.orphaned c)) ∨ (∃ d, o.source = some (.hook d)) ∨
            (∃ d p, s.orderAt d = some p ∧ p.crane = c ∧ p.kind = .move ∧ p.source = some (.hook c)) →
          exec i s = .next { s.after r k .queued .empty with
            shared := s.shared.setIfInBounds (e - 2) (some (.order o)) })))

/-- A new order on an idle crane that has reported no position, with every check of R154 met, is ACCEPTED in RESERVING with
age 0: a MOVE from a stack books the records at the top of it (or waits for those it cannot book) and its room; a SKELETON
books the station's skeleton; none has a span yet. The first check that fails is answered and nothing changes. -/
def Obligations.NewOrdersAreAcceptedWhole : Prop :=
  ∀ (s : State) (r : Req) (c : Crane) (e : Nat), s.ready r (.crane c) .run → s.activeOrder c = none → 1 ≤ r.tag →
    r.tag ≤ 255 → r.tag ∉ s.craneTags c → (s.craneTags c).length < 2 → 2 ≤ e → e ≤ 7 → s.entry e = none →
    (∀ d, 2 ≤ d → d < e → s.entry d ≠ none) → (∀ h ∈ s.hook c, s.custodyOf h ≠ some (.orphaned c)) →
    (∀ p q k p' q' code, 1 ≤ k → k ≤ 4 → placeOfArg p = some p' → placeOfArg q = some q' →
      s.acceptance (s.withRecords (newOrder c r.tag .move (some p') k (.place q'))) = some code →
      exec (.move r p k q) s = .next (s.after r .move code .empty)) ∧
    ((s.runway.get c).lastX = none →
      (∀ x, s.acceptance (newOrder c r.tag .travel none 0 (.x x)) = none →
        exec (.travel r x) s = .next { s.after r .travel .accepted (.sweep none) with
          shared := s.shared.setIfInBounds (e - 2) (some (.order { newOrder c r.tag .travel none 0 (.x x) with
            stage := .reserving, timer := some { age := 0 } })) }) ∧
      (∀ b st, s.acceptance (newOrder c r.tag .skeleton (some (.station b st)) 0 (.place .scrap)) = none →
        exec (.skeleton r (Bed.number b) (Station.code st)) s =
          .next { s.after r .skeleton .accepted (.sweep none) with
            shared := s.shared.setIfInBounds (e - 2) (some (.order
              { newOrder c r.tag .skeleton (some (.station b st)) 0 (.place .scrap) with
                stage := .reserving, timer := some { age := 0 }, skeleton := .booked })) }) ∧
      (∀ n k m, n < 48 → m < 48 → 1 ≤ k → k ≤ 4 → (s.pile n).Nodup →
        s.acceptance { newOrder c r.tag .move (some (.stack n)) k (.place (.stack m)) with
          records := (s.pile n).reverse.take k } = none →
        ∃ t, exec (.move r (.stack n) k (.stack m)) s = .next t ∧
          t.txAnswer = some ⟨r.link, .move, r.tag, .accepted, .sweep none⟩ ∧
          t.orderAt e = some { newOrder c r.tag .move (some (.stack n)) k (.place (.stack m)) with
            stage := .reserving
            timer := some { age := 0 }
            records := (s.pile n).reverse.take k
            inbound := some ⟨.stack m, k, (((s.pile n).reverse.take k).map s.thicknessOf).sum⟩ } ∧
          (∀ d, d ≠ e → t.entry d = s.entry d) ∧
          (∀ h ∈ (s.pile n).reverse.take k, ∀ q, s.recordOf h = some q → t.recordOf h = some
            (if q.custody = .rest ∧ q.booking = none then { q with booking := some ⟨c, r.tag⟩ }
             else { q with waitSlot := some ⟨c, r.tag⟩ })) ∧
          (∀ h, h ∉ (s.pile n).reverse.take k → t.recordOf h = s.recordOf h) ∧
          { t with slots := s.slots, shared := s.shared, txAnswer := none } =
            { s.after r .move .accepted .empty with txAnswer := none }))

/-- A TRAVEL of an idle crane with an empty hook, known spans clear of each other and no bed under its way is granted within
its request: its span runs from the position to the destination widened by the beam's half length and the clearance, the
crane's span becomes MOVE over the hull, and the order enters CARRY with ORDER GRANTED. When the hull overlaps the other
crane's span the order waits in RESERVING with its request pending. -/
def Obligations.TravelIsGrantedItsSpan : Prop :=
  ∀ (s : State) (r : Req) (c : Crane) (e x0 : Nat) (x : Int) (v u : CraneSpan) (w : Sweep) (hull : Interval),
    s.ready r (.crane c) .run → 1 ≤ r.tag → r.tag ≤ 255 → s.craneTags c = [] → 2 ≤ e → e ≤ 7 → s.entry e = none →
    (∀ d, 2 ≤ d → d < e → s.entry d ≠ none) → s.hook c = [] →
    (s.committed.cranes.get c).tare ≤ (s.committed.cranes.get c).swl →
    (s.runway.get c).lastX = some x0 → (s.runway.get c).span = some v → (s.runway.get c.other).span = some u →
    w = { extent := (s.committed.cranes.get c).halfLength
          span := widen s.committed.runway (min x0 (clamp s.committed.runway x)) (max x0 (clamp s.committed.runway x))
            ((s.committed.cranes.get c).halfLength + (s.committed.cranes.get c).clearance)
          corridor := widen s.committed.runway (min x0 (clamp s.committed.runway x))
            (max x0 (clamp s.committed.runway x)) (s.committed.cranes.get c).clearance } →
    hull = ⟨min w.span.lo v.range.lo, max w.span.hi v.range.hi⟩ →
    (hull.lo ≤ u.range.hi → u.range.lo ≤ hull.hi →
      exec (.travel r x) s = .next { s.after r .travel .accepted (.sweep (some (w.span, w.corridor))) with
        shared := s.shared.setIfInBounds (e - 2) (some (.order { newOrder c r.tag .travel none 0 (.x x) with
          stage := .reserving, timer := some { age := 0 }, sweep := some w }))
        runway := s.runway.set c { s.runway.get c with request := some ⟨r.tag, w⟩ } }) ∧
    (hull.hi < u.range.lo ∨ u.range.hi < hull.lo → (∀ b, s.bedUnder b w.span = false) →
      (∀ b, (s.quiesce.get b).holders.order.get c = none) → s.eStop = false → s.hold = none →
      (s.runway.get c.other).request = none →
      ∃ t, exec (.travel r x) s = .next t ∧
        t.txAnswer = some ⟨r.link, .travel, r.tag, .accepted, .sweep (some (w.span, w.corridor))⟩ ∧
        t.orderAt e = some { newOrder c r.tag .travel none 0 (.x x) with
          stage := .carry, timer := some { age := 0 }, sweep := some w, spanHeld := true } ∧
        t.runway = s.runway.set c { s.runway.get c with span := some ⟨.move, hull⟩, request := none } ∧
        ((s.links.get (.crane c)).queue.length < 16 → (t.links.get (.crane c)).queue =
          (s.links.get (.crane c)).queue ++ [.orderGranted
            { tag := r.tag, stage := .carry, span := w.span, corridor := w.corridor, dest := none,
              destX := clamp s.committed.runway x, held := ⟨false, false⟩, load := (s.committed.cranes.get c).tare }]) ∧
        t.motion.get c = t.motionDue c ∧
        { t with shared := s.shared, runway := s.runway, links := s.links, motion := s.motion, txAnswer := none } =
          { s with txAnswer := none, txNotice := none })

/-- What an AT reports: the clamped position is the last x. Of a crane without a granted span it is an idle report: its REST span
follows it, or a breach latches when its extent interval overlaps the other crane's span; with the latch set the position
alone is recorded. An order in RESERVING without a span has its pending request examined against the new span, or, at the
first position, its span computed and asked for once its records are booked: it waits while the hull overlaps the other crane's
span or that span is UNKNOWN, else the crane's span becomes MOVE over the hull, and with no bed under the order's span it
leaves RESERVING. A granted order in PICKUP or CARRY starts its age anew inside its corridor; outside it is HALTED with cause
BREACH. -/
def Obligations.PositionReportsMoveTheSpanOrBreach : Prop :=
  ∀ (s : State) (r : Req) (c : Crane) (x : Int) (x' : Nat), s.ready r (.crane c) .run →
    x' = clamp s.committed.runway x →
    (s.grantedOrder c = none →
      (∀ e o, s.activeOrder c = some (e, o) → o.stage = .reserving → o.sweep ≠ none) →
      ((s.runway.get c).breach ≠ none →
        exec (.at_ r x) s = .next { s.after r .at_ .ok (.position x' (s.runway.get c).span true) with
          runway := s.runway.set c { s.runway.get c with lastX := some x' } }) ∧
      ((s.runway.get c).breach = none → (s.runway.get c).request = none → (s.runway.get c.other).request = none →
        (∀ u, (s.runway.get c.other).span = some u →
          (s.extentInterval c x').hi < u.range.lo ∨ u.range.hi < (s.extentInterval c x').lo) →
        ∃ t, exec (.at_ r x) s = .next t ∧ t.motion = s.motion.set c (t.motionDue c) ∧
          { t with motion := s.motion } =
            { s.after r .at_ .ok (.position x' (some ⟨.rest, s.extentInterval c x'⟩) false) with
              runway := s.runway.set c { s.runway.get c with
                lastX := some x', span := some ⟨.rest, s.extentInterval c x'⟩ } }) ∧
      (∀ u, (s.runway.get c).breach = none → (s.runway.get c.other).span = some u →
        (s.extentInterval c x').lo ≤ u.range.hi → u.range.lo ≤ (s.extentInterval c x').hi →
        ∃ t kind, exec (.at_ r x) s = .next t ∧
          kind = (if (s.runway.get c).span = none then .first else .idle) ∧ t.motion = s.motion.set c false ∧
          { t with motion := s.motion } =
            ({ s.after r .at_ .ok (.position x' (s.runway.get c).span true) with
                runway := s.runway.set c { s.runway.get c with
                  lastX := some x', breach := some ⟨kind, x', s.hallTime⟩ } }.notify (.crane c)
              (.breach c kind x' (s.runway.get c).span none (some u))).notify .office
              (.breach c kind x' (s.runway.get c).span none (some u)))) ∧
    (∀ (e : Nat) (o : Order) (w : Sweep) (a : Interval) (booked : Prop), s.activeOrder c = some (e, o) →
      s.findOrder ⟨c, o.tag⟩ = some (e, o) → o.stage = .reserving → o.spanHeld = false → o.redirect = none →
      (s.runway.get c).breach = none → a = s.extentInterval c x' →
      (o.sweep = some w ∧ (s.runway.get c).request = some ⟨o.tag, w⟩) ∨
        (o.sweep = none ∧ (s.runway.get c).request = none ∧
          { s with runway := s.runway.set c { s.runway.get c with lastX := some x' } }.firstSweep o = some w) →
      (booked ↔ o.sweep ≠ none ∨ ∀ h ∈ o.records, ∃ v, s.recordOf h = some v ∧ v.booking = some ⟨c, o.tag⟩) →
      ((∀ u, (s.runway.get c.other).span = some u → a.hi < u.range.lo ∨ u.range.hi < a.lo) →
        (s.runway.get c.other).request = none →
        ∃ t, exec (.at_ r x) s = .next t ∧
          ((∀ b, (s.quiesce.get b).state = .running → (s.quiesce.get b).holders.order.get c.other = none) →
            ∀ d, d ≠ e → t.entry d = s.entry d) ∧
          (¬booked → t.txAnswer = some ⟨r.link, .at_, r.tag, .ok, .position x' (some ⟨.rest, a⟩) false⟩ ∧
            t.orderAt e = some { o with sweep := some w } ∧
            t.runway = s.runway.set c { s.runway.get c with lastX := some x', span := some ⟨.rest, a⟩ }) ∧
          (booked → (∀ u, (s.runway.get c.other).span = some u →
              min w.span.lo a.lo ≤ u.range.hi ∧ u.range.lo ≤ max w.span.hi a.hi) →
            t.txAnswer = some ⟨r.link, .at_, r.tag, .ok, .position x' (some ⟨.rest, a⟩) false⟩ ∧
            t.orderAt e = some { o with sweep := some w } ∧
            t.runway = s.runway.set c { s.runway.get c with
              lastX := some x', span := some ⟨.rest, a⟩, request := some ⟨o.tag, w⟩ }) ∧
          (∀ u, booked → (s.runway.get c.other).span = some u →
            max w.span.hi a.hi < u.range.lo ∨ u.range.hi < min w.span.lo a.lo →
            t.txAnswer = some ⟨r.link, .at_, r.tag, .ok,
              .position x' (some ⟨.move, ⟨min w.span.lo a.lo, max w.span.hi a.hi⟩⟩) false⟩ ∧
            t.runway = s.runway.set c { s.runway.get c with
              lastX := some x', span := some ⟨.move, ⟨min w.span.lo a.lo, max w.span.hi a.hi⟩⟩, request := none } ∧
            ((∀ b, s.bedUnder b w.span = false ∧ (s.quiesce.get b).holders.order.get c ≠ some o.tag) →
              t.orderAt e = some (s.leftReserving { o with sweep := some w, spanHeld := true }) ∧
              ((s.links.get (.crane c)).queue.length < 16 → ∃ g more, (t.links.get (.crane c)).queue =
                  (s.links.get (.crane c)).queue ++ .orderGranted g :: more ∧
                g.tag = o.tag ∧ g.span = w.span ∧ g.corridor = w.corridor)))) ∧
      (∀ u, (s.runway.get c).span = none → (s.runway.get c.other).span = some u → a.lo ≤ u.range.hi → u.range.lo ≤ a.hi →
        ∃ t, exec (.at_ r x) s = .next t ∧
          t.txAnswer = some ⟨r.link, .at_, r.tag, .ok, .position x' none true⟩ ∧
          t.orderAt e = some { o with sweep := some w } ∧ (∀ d, d ≠ e → t.entry d = s.entry d) ∧
          t.motion.get c = false ∧
          (booked → t.runway = s.runway.set c { s.runway.get c with
            lastX := some x', breach := some ⟨.first, x', s.hallTime⟩, request := some ⟨o.tag, w⟩ }) ∧
          (¬booked → t.runway = s.runway.set c { s.runway.get c with
            lastX := some x', breach := some ⟨.first, x', s.hallTime⟩ }))) ∧
    (∀ e o w, s.grantedOrder c = some (e, o) → o.sweep = some w → o.stage = .pickup ∨ o.stage = .carry →
      (w.corridor.lo ≤ x' → x' ≤ w.corridor.hi →
        exec (.at_ r x) s = .next
          { s.after r .at_ .ok (.position x' (s.runway.get c).span (s.runway.get c).breach.isSome) with
            runway := s.runway.set c { s.runway.get c with lastX := some x' }
            shared := s.shared.setIfInBounds (e - 2)
              (some (.order { o with timer := some { age := 0 } })) }) ∧
      (x' < w.corridor.lo ∨ w.corridor.hi < x' → (s.runway.get c).breach = none →
        ∃ t, exec (.at_ r x) s = .next t ∧
          t.txAnswer = some ⟨r.link, .at_, r.tag, .ok, .position x' (s.runway.get c).span true⟩ ∧
          t.runway = s.runway.set c { s.runway.get c with
            lastX := some x', breach := some ⟨.corridor, x', s.hallTime⟩ } ∧
          t.orderAt e = some { o with
            stage := .halted, remembered := if o.stage = .pickup then .pickup else .carry, timer := none,
            redirect := none, causes := { noCauses with breach := true } } ∧
          t.motion.get c = false ∧
          { t with runway := s.runway, shared := s.shared, motion := s.motion, links := s.links, txAnswer := none } =
            { s with txAnswer := none, txNotice := none }))

/-- PICKED with the count the order booked lifts those records to the hook, CARRIED and unbooked, in hook order, and moves
the order on: from PICKUP to CARRY with age 0, in HALTED the remembered stage. SKELETON lifts the station's skeleton with its
mass. The load fits and the extent is within the one granted, so no cause is gained. -/
def Obligations.PickedPutsTheLoadOnTheHook : Prop :=
  ∀ (s : State) (r : Req) (c : Crane) (e : Nat) (o : Order), s.ready r (.crane c) .run → s.activeOrder c = some (e, o) →
    o.stage = .pickup ∨ (o.stage = .halted ∧ o.remembered = .pickup) →
    (∀ n, o.kind = .move → o.source = some (.stack n) → o.records = (s.pile n).reverse.take o.count → 1 ≤ o.count →
      o.count ≤ 4 → o.count ≤ (s.pile n).length → (s.pile n).Nodup → n < 48 → s.hungSkeleton c = none →
      (∀ h ∈ o.records, ∃ q, s.recordOf h = some q) →
      (s.committed.cranes.get c).tare + (o.records.map s.massOf).sum ≤ (s.committed.cranes.get c).swl →
      (∀ w, o.sweep = some w →
        extentOf (o.records.map s.lengthOf) (s.committed.cranes.get c).halfLength ≤ w.extent) →
      ∃ t, exec (.picked r o.tag o.count) s = .next t ∧
        t.txAnswer = some ⟨r.link, .picked, r.tag, .ok, .picked o.records []
          ((s.committed.cranes.get c).tare + (o.records.map s.massOf).sum) o.causes⟩ ∧
        t.hook c = o.records ∧ t.pile n = (s.pile n).take ((s.pile n).length - o.count) ∧
        (∀ h ∈ o.records, ∀ q, s.recordOf h = some q →
          t.recordOf h = some { q with custody := .carried c, booking := none }) ∧
        (∀ h, h ∉ o.records → t.recordOf h = s.recordOf h) ∧
        (∀ m, m ≠ n → t.pile m = s.pile m) ∧ t.hook c.other = s.hook c.other ∧ t.infeed = s.infeed ∧
        t.stations = s.stations ∧
        t.orderAt e = some (if o.stage = .pickup then
            { o with stage := .carry, timer := some { age := 0 }, left := [], extras := [], short := false }
          else { o with remembered := .carry, left := [], extras := [], short := false }) ∧
        (∀ d, d ≠ e → t.entry d = s.entry d) ∧ t.links = s.heard r.link ∧ t.runway = s.runway) ∧
    (∀ b st, o.kind = .skeleton → o.source = some (.station b st) → s.hook c = [] → o.skeleton = .booked →
      (s.committed.cranes.get c).tare + (s.station b st).skeletonMass ≤ (s.committed.cranes.get c).swl →
      (∀ w, o.sweep = some w → max 10000 (s.committed.cranes.get c).halfLength ≤ w.extent) →
      ∃ t, exec (.picked r o.tag 0) s = .next t ∧
        t.txAnswer = some ⟨r.link, .picked, r.tag, .ok, .picked [] []
          ((s.committed.cranes.get c).tare + (s.station b st).skeletonMass) o.causes⟩ ∧
        t.station b st = { s.station b st with skeleton := false, skeletonMass := 0 } ∧
        t.orderAt e = some (if o.stage = .pickup then
            { o with stage := .carry, timer := some { age := 0 },
                     skeleton := .onHook (s.station b st).skeletonMass }
          else { o with remembered := .carry, skeleton := .onHook (s.station b st).skeletonMass }) ∧
        t.slots = s.slots ∧ t.piles = s.piles ∧ t.hooks = s.hooks ∧ t.infeed = s.infeed)

/-- LANDED at the order's destination with room for the load: the records join the tail of its list in hook order at REST,
the hook is empty, the reported x is the last one, and the order ends DONE, or SHORT if marked so. At a position that decodes
to no place the load stays on the hook and the order gains MISPLACED. A TRAVEL ends DONE at any LANDED. -/
def Obligations.LandedSetsTheLoadDown : Prop :=
  ∀ (s : State) (r : Req) (c : Crane) (x y : Int) (x' e : Nat) (o : Order), s.ready r (.crane c) .run →
    s.activeOrder c = some (e, o) → x' = clamp s.committed.runway x →
    (∀ n, n < 48 → o.kind = .move → o.dest = .place (.stack n) → o.stage = .carry → s.hook c ≠ [] → o.skeleton = .none →
      s.committed.placeAt x' y = some (.stack n) → s.inboundBy (.stack n) (some o.ref) = false →
      o.spanHeld = true → (∀ w, o.sweep = some w → w.corridor.lo ≤ x' ∧ x' ≤ w.corridor.hi) →
      (s.pile n).length + (s.hook c).length ≤ (s.committed.stack n).countLimit →
      ((s.pile n).map s.thicknessOf).sum + ((s.hook c).map s.thicknessOf).sum ≤ (s.committed.stack n).heightLimit →
      ∃ t, exec (.landed r o.tag x y) s = .next t ∧
        t.txAnswer = some ⟨r.link, .landed, r.tag, .ok,
          .landed (some (.stack n)) (s.hook c) (.ended (if o.short then .short else .done))⟩ ∧
        t.pile n = s.pile n ++ s.hook c ∧ t.hook c = [] ∧ (∀ h ∈ s.hook c, ∀ q, s.recordOf h = some q →
          ∃ q', t.recordOf h = some q' ∧ q'.custody = .rest ∧ q'.mass = q.mass ∧ q'.heat = q.heat) ∧
        (∀ m, m ≠ n → t.pile m = s.pile m) ∧ t.infeed = s.infeed ∧ t.stations = s.stations ∧
        (t.runway.get c).lastX = some x' ∧
        (s.orders = [(e, o)] → o.records = s.hook c → (s.hook c).length ≤ 4 →
          (∀ h ∈ s.hook c, ∀ q, s.recordOf h = some q → q.booking = none ∧ q.waitSlot = none) →
          (s.runway.get c.other).request = none → t.entry e = none)) ∧
    (∀ w, o.kind = .move → o.stage = .carry → s.hook c ≠ [] → o.spanHeld = true → o.sweep = some w →
      w.corridor.lo ≤ x' → x' ≤ w.corridor.hi → s.committed.placeAt x' y = none →
      ∃ t, exec (.landed r o.tag x y) s = .next t ∧
        t.txAnswer = some ⟨r.link, .landed, r.tag, .ok,
          .landed none [] (.halted { noCauses with misplaced := true })⟩ ∧
        t.orderAt e = some { o with
          stage := .halted, remembered := .carry, timer := none, redirect := none,
          causes := { noCauses with misplaced := true } } ∧
        t.hooks = s.hooks ∧ t.slots = s.slots ∧ t.piles = s.piles ∧ t.stations = s.stations ∧
        (t.runway.get c).lastX = some x') ∧
    (o.kind = .travel → o.stage = .carry ∨ (o.stage = .halted ∧ o.remembered = .carry) →
      ∃ t, exec (.landed r o.tag x y) s = .next t ∧
        t.txAnswer = some ⟨r.link, .landed, r.tag, .ok, .landed none [] (.ended .done)⟩ ∧
        (t.runway.get c).lastX = some x' ∧ t.hooks = s.hooks ∧ t.piles = s.piles ∧ t.stations = s.stations ∧
        (s.orders = [(e, o)] → o.records = [] → o.skeleton = .none → o.spanHeld = true →
          (∀ w, o.sweep = some w → w.corridor.lo ≤ x' ∧ x' ≤ w.corridor.hi) → (s.runway.get c).breach = none →
          (s.runway.get c.other).request = none →
          (∀ u, (s.runway.get c.other).span = some u →
            (s.extentInterval c x').hi < u.range.lo ∨ u.range.hi < (s.extentInterval c x').lo) →
          t.entry e = none ∧ (t.runway.get c).span = some ⟨.rest, s.extentInterval c x'⟩))

/-- HALT gives cause OPERATOR to an order in PICKUP or CARRY, which it halts, or HALTED; for a tag that is not the active
order's, or an order in RESERVING, it is STATE; RESUME returns a HALTED order without a lasting cause to PICKUP or CARRY with
age 0; ABANDON of a QUEUED order frees its entry and reports ABANDONED. With a cause other than OPERATOR and TIMEOUT a RESUME
is refused CAUSE, and with a load on the hook an ABANDON is LOADED, for a tag not live on the link STATE. ABANDON of the active
order with an empty hook, in any stage, ends it: its bookings and wait slots go, its inbound booking goes with its entry, its
request is withdrawn, and it leaves every bed, whose session closes with a RESUME when none stays. A granted span becomes REST
over the extent at the last x, or keeps its range while the crane is breached or where that would overlap the other crane's
span (a breach of kind END). ORDER END goes to the crane and the office. A record that comes to rest so is booked by the order
in its wait slot, which asks for its span once every record is booked. -/
def Obligations.CraneHaltsResumesAndAbandons : Prop :=
  (∀ (s : State) (r : Req) (c : Crane) (e : Nat) (o : Order), s.ready r (.crane c) .run →
    (∀ tag, (∀ d p, s.activeOrder c = some (d, p) → p.tag = tag → p.stage = .reserving) →
      exec (.halt r tag) s = .next (s.after r .halt .state .empty)) ∧
    (s.activeOrder c = some (e, o) →
      (o.stage = .pickup ∨ o.stage = .carry → ∃ t, exec (.halt r o.tag) s = .next t ∧
        t.txAnswer = some ⟨r.link, .halt, r.tag, .ok, .causes { noCauses with operator := true }⟩ ∧
        t.orderAt e = some { o with
          stage := .halted, remembered := if o.stage = .pickup then .pickup else .carry, timer := none, redirect := none,
          causes := { noCauses with operator := true } } ∧
        (∀ d, d ≠ e → t.entry d = s.entry d) ∧ t.motion.get c = t.motionDue c ∧
        { t with shared := s.shared, links := s.links, motion := s.motion, txAnswer := none } =
          { s with txAnswer := none, txNotice := none }) ∧
      (o.stage = .halted → ∃ t, exec (.halt r o.tag) s = .next t ∧
        t.txAnswer = some ⟨r.link, .halt, r.tag, .ok, .causes { o.causes with operator := true }⟩ ∧
        t.orderAt e = some { o with causes := { o.causes with operator := true } } ∧
        (∀ d, d ≠ e → t.entry d = s.entry d) ∧
        { t with shared := s.shared, links := s.links, motion := s.motion, txAnswer := none } =
          { s with txAnswer := none, txNotice := none }) ∧
      (o.stage = .halted → o.causes.estop || o.causes.hallHold || o.causes.link || o.causes.breach || o.causes.arcFault ||
          o.causes.overload || o.causes.misplaced →
        exec (.resume r o.tag) s = .next (s.after r .resume .cause (.causes o.causes))) ∧
      (o.stage = .halted → o.causes.estop = false → o.causes.hallHold = false → o.causes.link = false →
        o.causes.breach = false → o.causes.arcFault = false → o.causes.overload = false → o.causes.misplaced = false →
        o.remembered = .pickup ∨ o.remembered = .carry → ∃ t, exec (.resume r o.tag) s = .next t ∧
          t.txAnswer = some ⟨r.link, .resume, r.tag, .ok,
            .stage (if o.remembered = .pickup then .pickup else .carry)⟩ ∧
          t.orderAt e = some { o with
            stage := if o.remembered = .pickup then .pickup else .carry, timer := some { age := 0 },
            causes := noCauses, redirect := none } ∧
          (∀ d, d ≠ e → t.entry d = s.entry d) ∧ t.motion.get c = t.motionDue c ∧
          { t with shared := s.shared, links := s.links, motion := s.motion, txAnswer := none } =
            { s with txAnswer := none, txNotice := none }) ∧
      (s.findOrder ⟨c, o.tag⟩ = some (e, o) → s.hook c ≠ [] →
        exec (.abandon r o.tag) s = .next (s.after r .abandon .loaded .empty))) ∧
    (s.findOrder ⟨c, o.tag⟩ = some (e, o) → o.stage = .queued → ∃ t, exec (.abandon r o.tag) s = .next t ∧
      t.txAnswer = some ⟨r.link, .abandon, r.tag, .ok, .empty⟩ ∧ t.entry e = none ∧
      (∀ d, d ≠ e → t.entry d = s.entry d) ∧
      t.links = (({ s with links := s.heard r.link }.notify (.crane c)
        (.orderEnd ⟨c, o.tag, .abandoned, none, o.short, o.left, o.extras⟩)).notify .office
        (.orderEnd ⟨c, o.tag, .abandoned, none, o.short, o.left, o.extras⟩)).links ∧
      { t with shared := s.shared, links := s.links, motion := s.motion, txAnswer := none } =
        { s with txAnswer := none, txNotice := none })) ∧
  (∀ (s : State) (r : Req) (c : Crane) (tag : Nat), s.ready r (.crane c) .run → s.findOrder ⟨c, tag⟩ = none →
    exec (.abandon r tag) s = .next (s.after r .abandon .state .empty)) ∧
  (∀ (s : State) (r : Req) (c : Crane) (e : Nat) (o : Order) (notice : Notice), s.ready r (.crane c) .run →
    s.activeOrder c = some (e, o) → s.findOrder ⟨c, o.tag⟩ = some (e, o) → s.hookLoaded c = false →
    s.queuedOrder c = none → (s.runway.get c.other).request = none →
    (∀ h ∈ o.records, ∀ q, s.recordOf h = some q → q.waitSlot = none ∨ q.waitSlot = some ⟨c, o.tag⟩) →
    notice = .orderEnd ⟨c, o.tag, .abandoned, none, o.short, o.left, o.extras⟩ →
    ∃ t, exec (.abandon r o.tag) s = .next t ∧ t.txAnswer = some ⟨r.link, .abandon, r.tag, .ok, .empty⟩ ∧
      t.entry e = none ∧ (∀ d, d ≠ e → t.entry d = s.entry d) ∧
      (∀ h, t.recordOf h = (s.recordOf h).map fun q => if h ∈ o.records then { q with
        booking := if q.booking = some ⟨c, o.tag⟩ then none else q.booking
        waitSlot := if q.waitSlot = some ⟨c, o.tag⟩ then none else q.waitSlot } else q) ∧
      t.piles = s.piles ∧ t.stations = s.stations ∧ t.infeed = s.infeed ∧ t.hooks = s.hooks ∧ t.claims = s.claims ∧
      t.arcs = s.arcs ∧ t.consumables = s.consumables ∧ t.committed = s.committed ∧ t.active = s.active ∧
      (∀ b, (s.quiesce.get b).holders.order.get c ≠ some o.tag → t.quiesce.get b = s.quiesce.get b ∧
        t.links.get (.bed b) = s.links.get (.bed b)) ∧
      (∀ b left, (s.quiesce.get b).holders.order.get c = some o.tag →
        left = { (s.quiesce.get b).holders with order := (s.quiesce.get b).holders.order.set c none } →
        (left ≠ noHolders ∨ (s.quiesce.get b).state = .running →
          t.quiesce.get b = { s.quiesce.get b with holders := left } ∧ t.links.get (.bed b) = s.links.get (.bed b)) ∧
        (left = noHolders → (s.quiesce.get b).state ≠ .running →
          t.quiesce.get b = { s.quiesce.get b with
            state := .running, holders := noHolders, allowance := false, parked := false, degraded := false, timer := none } ∧
          t.links.get (.bed b) = (s.notify (.bed b) (.resume (s.quiesce.get b).session)).links.get (.bed b))) ∧
      t.runway.get c.other = s.runway.get c.other ∧ t.motion.get c = t.motionDue c ∧
      (∀ k, k = .crane c ∨ k = .office →
        o.spanHeld = false ∨ (s.runway.get c).breach ≠ none ∨ (s.runway.get c).lastX = none ∨
          (∀ x u, (s.runway.get c).lastX = some x → (s.runway.get c.other).span = some u →
            (s.extentInterval c x).hi < u.range.lo ∨ u.range.hi < (s.extentInterval c x).lo) →
        t.links.get k = ({ s with links := s.heard r.link }.notify k notice).links.get k) ∧
      (∀ w, w = { s.runway.get c with request := (s.runway.get c).request.filter fun q => q.tag ≠ o.tag } →
        (o.spanHeld = false → t.runway.get c = w) ∧
        (o.spanHeld = true → w.lastX = none ∨ w.breach ≠ none →
          t.runway.get c = { w with span := w.span.map fun v => { v with kind := .rest } }) ∧
        (∀ x, o.spanHeld = true → w.lastX = some x → w.breach = none →
          (∀ u, (s.runway.get c.other).span = some u → (s.extentInterval c x).lo ≤ u.range.hi →
            u.range.lo ≤ (s.extentInterval c x).hi → t.runway.get c = { w with
              span := w.span.map fun v => { v with kind := .rest }, breach := some ⟨.ending, x, s.hallTime⟩ }) ∧
          ((∀ u, (s.runway.get c.other).span = some u →
              (s.extentInterval c x).hi < u.range.lo ∨ u.range.hi < (s.extentInterval c x).lo) →
            t.runway.get c = { w with span := some ⟨.rest, s.extentInterval c x⟩ })))) ∧
  (∀ (s : State) (r : Req) (c : Crane) (e d : Nat) (o p : Order) (h : Handle) (q : Record) (v u : CraneSpan) (w : Sweep),
    s.ready r (.crane c) .run → s.activeOrder c = some (e, o) → s.findOrder ⟨c, o.tag⟩ = some (e, o) →
    s.hookLoaded c = false → s.queuedOrder c = none → o.records = [h] → s.recordOf h = some q → q.custody = .rest →
    q.booking = some ⟨c, o.tag⟩ → q.waitSlot = some ⟨c.other, p.tag⟩ → s.findOrder ⟨c.other, p.tag⟩ = some (d, p) →
    (∀ k, p.source = some k → ∀ g ∈ p.records, g ∈ s.liftable k p.count) →
    ∃ t, exec (.abandon r o.tag) s = .next t ∧ t.entry e = none ∧
      t.recordOf h = some { q with booking := some ⟨c.other, p.tag⟩, waitSlot := none } ∧
      (s.activeOrder c.other = some (d, p) → p.stage = .reserving → p.redirect = none → p.spanHeld = false → p.sweep = some w →
        (s.runway.get c).span = some v → (s.runway.get c.other).span = some u →
        (∀ g ∈ p.records, g ≠ h → ∃ k, s.recordOf g = some k ∧ k.booking = some ⟨c.other, p.tag⟩) →
        ((t.runway.get c.other).request = some ⟨p.tag, w⟩ ∧ t.orderAt d = some p) ∨
          ((t.runway.get c.other).request = none ∧ ∃ p', t.orderAt d = some p' ∧ p'.spanHeld = true)))

/-- REDIRECT of a MOVE with its load on the hook, in CARRY or in HALTED remembering CARRY, to a stack that is in use, has
room and is open: the order moves its booking there, waits in RESERVING with age 0 and its old span, and its request carries
the span from the last x to the new destination; while that hull overlaps the other crane's span it stays pending. -/
def Obligations.RedirectAsksForANewSpan : Prop :=
  ∀ (s : State) (r : Req) (c : Crane) (e x0 n : Nat) (o : Order) (v u : CraneSpan) (w : Sweep), s.ready r (.crane c) .run →
    s.activeOrder c = some (e, o) → o.kind = .move →
    o.stage = .carry ∨ (o.stage = .halted ∧ o.remembered = .carry) → n < 48 → s.committed.inUse n = true →
    s.hook c ≠ [] →
    (o.dest ≠ .place (.stack n) → s.hasRoom (.stack n) (s.hook c).length (((s.hook c).map s.thicknessOf).sum) none = true) →
    (o.dest = .place (.stack n) →
      s.hasRoom (.stack n) (s.hook c).length (((s.hook c).map s.thicknessOf).sum) (some o.ref) = true) →
    s.closedTo (.stack n) (some o.ref) = false → (s.runway.get c).lastX = some x0 → (s.runway.get c).span = some v →
    (s.runway.get c.other).span = some u →
    w = { extent := s.hookExtent c
          span := widen s.committed.runway (min x0 (s.committed.stack n).centre.x) (max x0 (s.committed.stack n).centre.x)
            (s.hookExtent c + (s.committed.cranes.get c).clearance)
          corridor := widen s.committed.runway (min x0 (s.committed.stack n).centre.x)
            (max x0 (s.committed.stack n).centre.x) (s.committed.cranes.get c).clearance } →
    min w.span.lo v.range.lo ≤ u.range.hi → u.range.lo ≤ max w.span.hi v.range.hi → o.redirect = none →
    exec (.redirect r o.tag (.stack n)) s = .next
      { s.after r .redirect .accepted (.sweep (some (w.span, w.corridor))) with
        shared := s.shared.setIfInBounds (e - 2) (some (.order { o with
          dest := .place (.stack n)
          inbound := some ⟨.stack n, (s.hook c).length, ((s.hook c).map s.thicknessOf).sum⟩
          stage := .reserving
          timer := some { age := 0 }
          causes := { o.causes with misplaced := false }
          remembered := .carry
          redirect := some
            { haltedReturn := decide (o.stage = .halted), before := none, cleared := false, joined := ⟨false, false⟩ } }))
        runway := s.runway.set c { s.runway.get c with request := some ⟨o.tag, w⟩ } }

/-- The checks of R154 on a new order of an idle crane, in their order, with nothing but what its own HOOK source names on the hook.
A MOVE is BAD_PLACE when its places are one, do not exist or are not allowed; NOT_TOP when its source has not the records to
lift, or another order brings some there; NO_ROOM when the destination has no room or is closed; OVERLOAD when beam and records
exceed the SWL; BUSY when a record to be waited for is waited for already; else it is ACCEPTED. A SKELETON is BAD_PLACE without a
SCRAP zone, NOT_TOP without a skeleton, OVERLOAD, or BUSY when it is booked. That the other crane's hook is no source (BAD_PLACE)
is the model's reading of R154 (log 24). A TRAVEL is OVERLOAD when the beam alone is, in states written by hand: R125 keeps the SWL
above the beam in every run. -/
def Obligations.NewOrdersAreCheckedInOrder : Prop :=
  (∀ (s : State) (r : Req) (c : Crane) (p q : PlaceArg) (k : Nat) (p' q' : Place) (named bound : List Handle)
      (bad few full heavy busy : Prop),
    s.ready r (.crane c) .run → s.activeOrder c = none → 1 ≤ r.tag → r.tag ≤ 255 → r.tag ∉ s.craneTags c →
    (s.craneTags c).length < 2 → (∃ e, 2 ≤ e ∧ e ≤ 7 ∧ s.entry e = none) → 1 ≤ k → k ≤ 4 → placeOfArg p = some p' →
    placeOfArg q = some q' → s.hook c = [] ∨ p' = .hook c →
    named = (match p' with
      | .hook _ => []
      | .infeed => s.infeed.take k
      | _ => (s.listAt p').reverse.take k) →
    bound = (match p' with
      | .hook _ => s.hook c
      | _ => named) →
    (bad ↔ p' = q' ∨ p' = .scrap ∨ p' = .hook c.other ∨ q' = .infeed ∨ (∃ d, q' = .hook d) ∨
      (p' = .infeed ∧ ∀ i, i < 16 → (s.committed.zone i).valid = true → (s.committed.zone i).kind ≠ .infeed) ∨
      (q' = .scrap ∧ ∀ i, i < 16 → (s.committed.zone i).valid = true → (s.committed.zone i).kind ≠ .scrap) ∨
      ∃ n, (p' = .stack n ∨ q' = .stack n) ∧ ∀ i lanes lo hi ls, i < 16 → (s.committed.zone i).valid = true →
        (s.committed.zone i).kind = .stacking lanes lo hi ls → n ∉ ls) →
    (few ↔ (p' = .infeed ∧ (k ≠ 1 ∨ s.infeed = [])) ∨
      (p' = .hook c ∧ k ≠ ((s.hook c).filter fun h => s.custodyOf h = some (.orphaned c)).length) ∨
      (((∃ n, p' = .stack n) ∨ ∃ b st, p' = .station b st) ∧
        ((s.listAt p').length < k ∨ ∃ e o i, s.orderAt e = some o ∧ o.inbound = some i ∧ i.place = p'))) →
    (full ↔ q' ≠ .scrap ∧ ((∃ e o i, s.orderAt e = some o ∧ o.inbound = some i ∧ i.place = q') ∨
      (∃ h ∈ s.listAt q', ∃ v, s.recordOf h = some v ∧ v.booking ≠ none ∧ v.booking ≠ some ⟨c, r.tag⟩) ∨
      (∃ n, q' = .stack n ∧ ((s.committed.stack n).countLimit < (s.pile n).length + k ∨
        (s.committed.stack n).heightLimit < ((s.pile n).map s.thicknessOf).sum + (bound.map s.thicknessOf).sum)) ∨
      ∃ b st, q' = .station b st ∧ (3 < (s.station b st).records.length + k ∨ (s.station b st).skeleton = true ∨
        (∃ h ∈ (s.station b st).records, ∃ d, s.custodyOf h = some (.claimed d) ∨ s.custodyOf h = some (.worked d)) ∨
        (s.active.get b = st ∧ s.claims.get b ≠ none)))) →
    (heavy ↔ p' ≠ .hook c ∧
      (s.committed.cranes.get c).swl < (s.committed.cranes.get c).tare + (named.map s.massOf).sum) →
    (busy ↔ ∃ h ∈ named, ∃ v, s.recordOf h = some v ∧ (v.custody ≠ .rest ∨ v.booking ≠ none) ∧ v.waitSlot ≠ none) →
    (bad → exec (.move r p k q) s = .next (s.after r .move .badPlace .empty)) ∧
    (¬bad → few → exec (.move r p k q) s = .next (s.after r .move .notTop .empty)) ∧
    (¬bad → ¬few → full → exec (.move r p k q) s = .next (s.after r .move .noRoom .empty)) ∧
    (¬bad → ¬few → ¬full → heavy → exec (.move r p k q) s = .next (s.after r .move .overload .empty)) ∧
    (¬bad → ¬few → ¬full → ¬heavy → busy → exec (.move r p k q) s = .next (s.after r .move .busy .empty)) ∧
    (¬bad → ¬few → ¬full → ¬heavy → ¬busy → ∃ t sweep, exec (.move r p k q) s = .next t ∧
      t.txAnswer = some ⟨r.link, .move, r.tag, .accepted, .sweep sweep⟩)) ∧
  (∀ (s : State) (r : Req) (c : Crane) (b : Bed) (st : Station) (bad heavy busy : Prop),
    s.ready r (.crane c) .run → s.activeOrder c = none → 1 ≤ r.tag → r.tag ≤ 255 → r.tag ∉ s.craneTags c →
    (s.craneTags c).length < 2 → (∃ e, 2 ≤ e ∧ e ≤ 7 ∧ s.entry e = none) → s.hook c = [] →
    (bad ↔ ∀ i, i < 16 → (s.committed.zone i).valid = true → (s.committed.zone i).kind ≠ .scrap) →
    (heavy ↔ (s.committed.cranes.get c).swl < (s.committed.cranes.get c).tare + (s.station b st).skeletonMass) →
    (busy ↔ ∃ e o, s.orderAt e = some o ∧ o.skeleton = .booked ∧ o.source = some (.station b st)) →
    (bad → exec (.skeleton r b.number st.code) s = .next (s.after r .skeleton .badPlace .empty)) ∧
    (¬bad → (s.station b st).skeleton = false →
      exec (.skeleton r b.number st.code) s = .next (s.after r .skeleton .notTop .empty)) ∧
    (¬bad → (s.station b st).skeleton = true → heavy →
      exec (.skeleton r b.number st.code) s = .next (s.after r .skeleton .overload .empty)) ∧
    (¬bad → (s.station b st).skeleton = true → ¬heavy → busy →
      exec (.skeleton r b.number st.code) s = .next (s.after r .skeleton .busy .empty)) ∧
    (¬bad → (s.station b st).skeleton = true → ¬heavy → ¬busy → ∃ t sweep,
      exec (.skeleton r b.number st.code) s = .next t ∧
      t.txAnswer = some ⟨r.link, .skeleton, r.tag, .accepted, .sweep sweep⟩)) ∧
  (∀ (s : State) (r : Req) (c : Crane) (x : Int),
    s.ready r (.crane c) .run → s.activeOrder c = none → 1 ≤ r.tag → r.tag ≤ 255 → r.tag ∉ s.craneTags c →
    (s.craneTags c).length < 2 → (∃ e, 2 ≤ e ∧ e ≤ 7 ∧ s.entry e = none) → s.hook c = [] →
    (s.committed.cranes.get c).swl < (s.committed.cranes.get c).tare →
    exec (.travel r x) s = .next (s.after r .travel .overload .empty))

/-- A MOVE from a stack, a station, the infeed or the crane's own hook, or a SKELETON, accepted on an idle crane that has reported a
position: its span runs over the position, the source and the destination, widened by the extent and the clearance. While a
record must be waited for, no span is asked for. While the hull overlaps the other crane's span the request is pending. Once it
is clear the crane's span becomes MOVE over the hull, each bed under the order's span is asked for a hold (a RUNNING bed opens
a session), and when every such bed is QUIESCED, or there is none, the order leaves RESERVING for PICKUP, a HOOK source for
CARRY, or HALTED where causes stand. -/
def Obligations.NewOrdersAreGrantedTheirSpan : Prop :=
  ∀ (s : State) (r : Req) (c : Crane) (e x0 extent : Nat) (i : Instr) (k : RequestKind) (o o' : Order) (bound : List Handle)
      (xs : List Nat) (w : Sweep) (v u : CraneSpan) (hull : Interval),
    s.ready r (.crane c) .run → s.activeOrder c = none → 1 ≤ r.tag → r.tag ≤ 255 → r.tag ∉ s.craneTags c →
    (s.craneTags c).length < 2 → 2 ≤ e → e ≤ 7 → s.entry e = none → (∀ d, 2 ≤ d → d < e → s.entry d ≠ none) →
    s.hook c = [] ∨ o.source = some (.hook c) →
    (∃ p q n p' q', i = .move r p n q ∧ k = .move ∧ 1 ≤ n ∧ n ≤ 4 ∧ placeOfArg p = some p' ∧ placeOfArg q = some q' ∧
        o = { newOrder c r.tag .move (some p') n (.place q') with
          records := match p' with
            | .hook _ => []
            | .infeed => s.infeed.take n
            | _ => (s.listAt p').reverse.take n }) ∨
      (∃ b st, i = .skeleton r (Bed.number b) (Station.code st) ∧ k = .skeleton ∧
        o = newOrder c r.tag .skeleton (some (.station b st)) 0 (.place .scrap)) →
    s.acceptance o = none → o.records.Nodup → (s.runway.get c).lastX = some x0 → (s.runway.get c).span = some v →
    (s.runway.get c.other).span = some u →
    xs = (match o.source with
        | some .infeed => [s.committed.infeedCentre.x]
        | some (.stack n) => [(s.committed.stack n).centre.x]
        | some (.station b st) => [((s.committed.stationCentres.get b).get st).x]
        | _ => []) ++
      (match o.dest with
        | .place (.stack n) => [(s.committed.stack n).centre.x]
        | .place (.station b st) => [((s.committed.stationCentres.get b).get st).x]
        | _ => [s.committed.scrapCentre.x]) →
    bound = (if o.source = some (.hook c) then s.hook c else o.records) →
    extent = (if o.kind = .skeleton then max 10000 (s.committed.cranes.get c).halfLength
      else extentOf (bound.map s.lengthOf) (s.committed.cranes.get c).halfLength) →
    w = { extent := extent
          span := widen s.committed.runway (xs.foldl min x0) (xs.foldl max x0)
            (extent + (s.committed.cranes.get c).clearance)
          corridor := widen s.committed.runway (xs.foldl min x0) (xs.foldl max x0)
            (s.committed.cranes.get c).clearance } →
    hull = ⟨min w.span.lo v.range.lo, max w.span.hi v.range.hi⟩ →
    o' = { o with
      stage := .reserving
      timer := some { age := 0 }
      skeleton := if o.kind = .skeleton then .booked else .none
      sweep := some w
      inbound := match o.dest with
        | .place (.stack n) => some ⟨.stack n, o.count, (bound.map s.thicknessOf).sum⟩
        | .place (.station b st) => some ⟨.station b st, o.count, (bound.map s.thicknessOf).sum⟩
        | _ => none } →
    ∃ t, exec i s = .next t ∧
      t.txAnswer = some ⟨r.link, k, r.tag, .accepted, .sweep (some (w.span, w.corridor))⟩ ∧
      (∀ h ∈ o.records, ∀ q, s.recordOf h = some q → t.recordOf h = some
        (if q.custody = .rest ∧ q.booking = none then { q with booking := some ⟨c, r.tag⟩ }
         else { q with waitSlot := some ⟨c, r.tag⟩ })) ∧
      (∀ h, h ∉ o.records → t.recordOf h = s.recordOf h) ∧
      ((s.runway.get c.other).request = none →
        (∀ b, (s.quiesce.get b).state = .running → (s.quiesce.get b).holders.order.get c.other = none) →
        ∀ d, d ≠ e → t.entry d = s.entry d) ∧
      ((∃ h ∈ o.records, ∃ q, s.recordOf h = some q ∧ (q.custody ≠ .rest ∨ q.booking ≠ none) ∧
          q.booking ≠ some ⟨c, r.tag⟩) → t.orderAt e = some o' ∧ t.runway = s.runway ∧ t.quiesce = s.quiesce) ∧
      ((∀ h ∈ o.records, ∃ q, s.recordOf h = some q ∧ q.custody = .rest ∧ q.booking = none) →
        (hull.lo ≤ u.range.hi → u.range.lo ≤ hull.hi → t.orderAt e = some o' ∧ t.quiesce = s.quiesce ∧
          t.runway = s.runway.set c { s.runway.get c with request := some ⟨r.tag, w⟩ }) ∧
        (hull.hi < u.range.lo ∨ u.range.hi < hull.lo → (s.runway.get c.other).request = none →
          (∀ b, (s.quiesce.get b).holders.order.get c = none) →
          (∀ b, (s.quiesce.get b).state = .running → (s.quiesce.get b).holders.order.get c.other = none) →
          t.runway = s.runway.set c { s.runway.get c with span := some ⟨.move, hull⟩, request := none } ∧
          (∀ b, s.bedUnder b w.span = false → t.quiesce.get b = s.quiesce.get b) ∧
          (∀ b, s.bedUnder b w.span = true → (s.quiesce.get b).state ≠ .running → t.quiesce.get b =
            { s.quiesce.get b with holders :=
              { (s.quiesce.get b).holders with order := (s.quiesce.get b).holders.order.set c (some r.tag) } }) ∧
          (∀ b, s.bedUnder b w.span = true → (s.quiesce.get b).state = .running → s.linkUp (.bed b) = true →
            t.quiesce.get b =
              { state := if (s.claims.get b).isSome then .stopping else .parking
                holders :=
                  { (s.quiesce.get b).holders with order := (s.quiesce.get b).holders.order.set c (some r.tag) }
                session := if (s.quiesce.get b).session = 255 then 1 else (s.quiesce.get b).session + 1
                allowance := s.permit.get b && s.permitDue b
                parked := false
                degraded := false
                timer := some { age := 0 } } ∧
            (t.links.get (.bed b)).queue = (s.links.get (.bed b)).queue ++
              (if 16 ≤ (s.links.get (.bed b)).queue.length then [] else
                [match s.claims.get b with
                  | some n => .stopContour (t.quiesce.get b).session (some n.plate)
                  | none => .park (t.quiesce.get b).session])) ∧
          ((∀ b, s.bedUnder b w.span = true → (s.quiesce.get b).state = .quiesced) →
            t.orderAt e = some (s.leftReserving { o' with spanHeld := true }) ∧
            ((s.links.get (.crane c)).queue.length < 15 → ∃ g, (t.links.get (.crane c)).queue =
                (s.links.get (.crane c)).queue ++ .orderGranted g ::
                  (if s.causesOnLeaving o = noCauses then [] else [.orderHalted r.tag (s.causesOnLeaving o) o.entryStage]) ∧
              g.tag = r.tag ∧ g.span = w.span ∧ g.corridor = w.corridor ∧
              ∀ b, g.held.get b = s.bedUnder b w.span)) ∧
          ((∃ b, s.bedUnder b w.span = true ∧ (s.quiesce.get b).state ≠ .quiesced) →
            (∀ b, s.bedUnder b w.span = true → (s.quiesce.get b).state = .running → s.linkUp (.bed b) = true) →
            t.orderAt e = some { o' with spanHeld := true })))

/-- PICKED of n records of a MOVE from a stack, a station or the infeed, whatever the count k the order booked. The lift takes the n
at the top (the infeed's oldest) in hook order. With n below k the order is SHORT, and the booked records left lose their
booking and stay; with n above k the extra ones are lifted too, and another order that had booked one ends REFUSED(GONE). A load
above the SWL gives OVERLOAD, an extent above the granted one or a destination without room for the extras MISPLACED: an order
in PICKUP is then HALTED remembering CARRY, else it enters CARRY with age 0; an order in HALTED gains the causes. -/
def Obligations.PickedCountsWhatHangs : Prop :=
  ∀ (s : State) (r : Req) (c : Crane) (e n : Nat) (o : Order) (p : Place) (hs rest : List Handle) (full : Bool)
      (k causes : CauseSet) (base : Order),
    s.ready r (.crane c) .run → s.activeOrder c = some (e, o) → o.kind = .move → o.source = some p →
    o.stage = .pickup ∨ (o.stage = .halted ∧ o.remembered = .pickup) → 1 ≤ n → n ≤ 4 → 1 ≤ o.count → o.count ≤ 4 →
    p = .infeed ∨ (∃ m, p = .stack m ∧ m < 48) ∨ (∃ b st, p = .station b st) → n ≤ (s.listAt p).length →
    (s.listAt p).Nodup → (∀ h ∈ s.listAt p, ∃ q, s.recordOf h = some q) →
    hs = (if p = .infeed then (s.listAt p).take n else (s.listAt p).reverse.take n) →
    rest = (if p = .infeed then (s.listAt p).drop n else (s.listAt p).take ((s.listAt p).length - n)) →
    o.records = (if p = .infeed then (s.listAt p).take o.count else (s.listAt p).reverse.take o.count) →
    (∀ h ∈ o.records, h ∉ hs → ∀ q, s.recordOf h = some q → q.booking = some o.ref ∧ q.waitSlot = none) →
    (∀ d o', s.orderAt d = some o' → o'.records.length ≤ 4) → s.hungSkeleton c = none → o.dest ≠ .place p →
    (s.runway.get c).request = none → o.redirect = none →
    (∀ h q, s.recordOf h = some q → q.waitSlot ≠ some o.ref) →
    (full = true ↔ o.count < n ∧ ∃ d, o.dest = .place d ∧ s.hasRoom d n (hs.map s.thicknessOf).sum (some o.ref) = false) →
    k = { noCauses with overload := k.overload, misplaced := k.misplaced } →
    (k.overload = true ↔
      (s.committed.cranes.get c).swl < (s.committed.cranes.get c).tare + (hs.map s.massOf).sum) →
    (k.misplaced = true ↔ full = true ∨ ∃ w, o.sweep = some w ∧
      w.extent < extentOf (hs.map s.lengthOf) (s.committed.cranes.get c).halfLength) →
    causes = (if o.stage = .halted then o.causes.union k else if k = noCauses then o.causes else k) →
    base = { o with
      records := hs
      left := o.records.drop n
      extras := hs.drop o.count
      short := decide (n < o.count)
      inbound := if n = o.count ∨ full = true then o.inbound
        else o.inbound.map fun i => { i with count := n, thickness := (hs.map s.thicknessOf).sum } } →
    ∃ t, exec (.picked r o.tag n) s = .next t ∧
      t.txAnswer = some ⟨r.link, .picked, r.tag, .ok, .picked hs (hs.drop o.count)
        ((s.committed.cranes.get c).tare + (hs.map s.massOf).sum) causes⟩ ∧
      t.hook c = hs ∧ t.listAt p = rest ∧ (∀ d, d ≠ p → d ≠ .hook c → t.listAt d = s.listAt d) ∧
      (∀ h ∈ hs, ∀ q, s.recordOf h = some q →
        ∃ q', t.recordOf h = some q' ∧ q'.custody = .carried c ∧ q'.booking = none ∧ q'.mass = q.mass) ∧
      (∀ h ∈ o.records, h ∉ hs → ∀ q, s.recordOf h = some q → t.recordOf h = some { q with booking := none }) ∧
      t.orderAt e = some (if o.stage = .halted then { base with remembered := .carry, causes := causes }
        else if k = noCauses then { base with stage := .carry, timer := some { age := 0 } }
        else { base with stage := .halted, remembered := .carry, timer := none, causes := k }) ∧
      (∀ d o', s.orderAt d = some o' → o'.ref ≠ o.ref →
        (∃ h ∈ hs.drop o.count, ∃ q, s.recordOf h = some q ∧ q.booking = some o'.ref) → t.entry d = none ∧
        ((∀ x y, s.orderAt x = some y → x = e ∨ x = d) → s.mask.crane = true → (s.links.get .office).queue.length < 12 →
          .orderEnd ⟨o'.crane, o'.tag, .refusedGone, none, o'.short, o'.left, o'.extras⟩ ∈
            (t.links.get .office).queue))

/-- Where a load is set down, for the only live order. At a stack or station with room, its destination or another that is open to
it, the records join the tail of the list in hook order at REST, and the order ends DONE (SHORT), or MISPLACED elsewhere. At
SCRAP they are freed with their generations kept and RETIRED notices, or the skeleton is gone, and the order ends likewise.
Without room, at the infeed, and with a skeleton on the hook anywhere else, the load stays and the order gains MISPLACED. -/
def Obligations.LandingsEndByTheirPlace : Prop :=
  ∀ (s : State) (r : Req) (c : Crane) (x y : Int) (x' e : Nat) (o : Order) (p : Place), s.ready r (.crane c) .run →
    s.activeOrder c = some (e, o) → s.orders = [(e, o)] → o.kind ≠ .travel → o.stage = .carry ∨ o.stage = .halted →
    s.hook c ≠ [] ∨ s.hungSkeleton c ≠ none → x' = clamp s.committed.runway x → s.committed.placeAt x' y = some p →
    o.spanHeld = true → (∀ w, o.sweep = some w → w.corridor.lo ≤ x' ∧ x' ≤ w.corridor.hi) → (s.hook c).Nodup →
    (s.hook c).length ≤ 4 → o.records.length ≤ 4 → (s.runway.get c.other).request = none →
    (∀ h ∈ s.hook c, ∃ q, s.recordOf h = some q ∧ q.booking = none ∧ q.waitSlot = none) →
    ((∃ n, p = .stack n ∧ n < 48) ∨ (∃ b st, p = .station b st) → o.skeleton = .none →
      s.hasRoom p (s.hook c).length ((s.hook c).map s.thicknessOf).sum (some o.ref) = true →
      o.dest = .place p ∨ s.closedTo p (some o.ref) = false →
      ∃ t cond, exec (.landed r o.tag x y) s = .next t ∧
        cond = (if o.dest = .place p then (if o.short then .short else .done) else .misplaced) ∧
        t.txAnswer = some ⟨r.link, .landed, r.tag, .ok, .landed (some p) (s.hook c) (.ended cond)⟩ ∧
        t.listAt p = s.listAt p ++ s.hook c ∧ t.hook c = [] ∧ (∀ d, d ≠ p → d ≠ .hook c → t.listAt d = s.listAt d) ∧
        (∀ h ∈ s.hook c, ∀ q, s.recordOf h = some q → t.recordOf h = some { q with custody := .rest }) ∧
        (t.runway.get c).lastX = some x' ∧ t.entry e = none ∧
        (s.mask.crane = true → (s.links.get .office).queue.length < 12 →
          .orderEnd ⟨c, o.tag, cond, some p, o.short, o.left, o.extras⟩ ∈ (t.links.get .office).queue)) ∧
    (p = .scrap → ∃ t cond, exec (.landed r o.tag x y) s = .next t ∧
        cond = (if o.dest = .place p then (if o.short then .short else .done) else .misplaced) ∧
        t.txAnswer = some ⟨r.link, .landed, r.tag, .ok, .landed (some p) (s.hook c) (.ended cond)⟩ ∧
        t.hook c = [] ∧ t.hungSkeleton c = none ∧ (∀ h ∈ s.hook c, t.recordOf h = none ∧ (t.slot h.index).gen = h.gen) ∧
        (∀ h, h ∉ s.hook c → h ∉ o.records → t.recordOf h = s.recordOf h) ∧
        (t.runway.get c).lastX = some x' ∧ t.entry e = none ∧
        ((s.links.get .office).queue.length < 8 →
          (s.mask.stock = true → ∀ h ∈ s.hook c, ∀ q, s.recordOf h = some q →
            .retired h q.heat .scrapped ∈ (t.links.get .office).queue) ∧
          (s.mask.crane = true →
            .orderEnd ⟨c, o.tag, cond, some p, o.short, o.left, o.extras⟩ ∈ (t.links.get .office).queue))) ∧
    (p = .infeed ∨ (p ≠ .scrap ∧ o.skeleton ≠ .none) ∨
        (p ≠ .scrap ∧ s.hasRoom p (s.hook c).length ((s.hook c).map s.thicknessOf).sum (some o.ref) = false) ∨
        (p ≠ .scrap ∧ o.dest ≠ .place p ∧ s.closedTo p (some o.ref) = true) →
      ∃ t causes, exec (.landed r o.tag x y) s = .next t ∧
        causes = (if o.stage = .halted then { o.causes with misplaced := true } else { noCauses with misplaced := true }) ∧
        t.txAnswer = some ⟨r.link, .landed, r.tag, .ok, .landed (some p) [] (.halted causes)⟩ ∧
        t.orderAt e = some (if o.stage = .halted then { o with causes := causes }
          else { o with stage := .halted, remembered := .carry, timer := none, redirect := none, causes := causes }) ∧
        t.hooks = s.hooks ∧ t.slots = s.slots ∧ t.piles = s.piles ∧ t.stations = s.stations ∧ t.infeed = s.infeed ∧
        (t.runway.get c).lastX = some x')

/-- REDIRECT of a loaded MOVE to a stack, granted within its request: the crane's span becomes MOVE over the hull of the old span
and the new one. With every bed under the new span QUIESCED, or none under it, it completes at once: the order holds those
beds, leaves the others (one it alone held closes with RESUME), takes the new span and returns to CARRY with age 0, or to
HALTED with its causes; ORDER GRANTED is the first notice to the crane, before ORDER HALTED where it returns to HALTED by the
model's choice (log 33). With a bed still to quiet it waits with the beds joined marked, and PARKED of the last completes it. -/
def Obligations.RedirectsCompleteOnTheirNewSpan : Prop :=
  (∀ (s : State) (r : Req) (c : Crane) (e x0 n : Nat) (o o' : Order) (v u : CraneSpan) (w : Sweep) (hull : Interval),
    s.ready r (.crane c) .run → s.activeOrder c = some (e, o) → s.findOrder ⟨c, o.tag⟩ = some (e, o) → o.kind = .move →
    o.stage = .carry ∨ (o.stage = .halted ∧ o.remembered = .carry) → n < 48 → s.committed.inUse n = true →
    s.hook c ≠ [] →
    s.hasRoom (.stack n) (s.hook c).length (((s.hook c).map s.thicknessOf).sum)
      (if o.dest = .place (.stack n) then some o.ref else none) = true →
    s.closedTo (.stack n) (some o.ref) = false → (s.runway.get c).lastX = some x0 → (s.runway.get c).span = some v →
    (s.runway.get c.other).span = some u → (s.runway.get c.other).request = none → o.redirect = none →
    w = { extent := s.hookExtent c
          span := widen s.committed.runway (min x0 (s.committed.stack n).centre.x) (max x0 (s.committed.stack n).centre.x)
            (s.hookExtent c + (s.committed.cranes.get c).clearance)
          corridor := widen s.committed.runway (min x0 (s.committed.stack n).centre.x)
            (max x0 (s.committed.stack n).centre.x) (s.committed.cranes.get c).clearance } →
    hull = ⟨min w.span.lo v.range.lo, max w.span.hi v.range.hi⟩ → hull.hi < u.range.lo ∨ u.range.hi < hull.lo →
    o' = { o with
      dest := .place (.stack n)
      inbound := some ⟨.stack n, (s.hook c).length, ((s.hook c).map s.thicknessOf).sum⟩
      sweep := some w
      spanHeld := true
      causes := { o.causes with misplaced := false }
      remembered := .carry } →
    ∃ t, exec (.redirect r o.tag (.stack n)) s = .next t ∧
      t.txAnswer = some ⟨r.link, .redirect, r.tag, .accepted, .sweep (some (w.span, w.corridor))⟩ ∧
      t.runway = s.runway.set c { s.runway.get c with span := some ⟨.move, hull⟩, request := none } ∧
      t.hooks = s.hooks ∧ t.slots = s.slots ∧
      ((∀ b, (s.quiesce.get b).state = .running → (s.quiesce.get b).holders.order.get c.other = none) →
        ∀ d, d ≠ e → t.entry d = s.entry d) ∧
      ((∀ b, s.bedUnder b w.span = true → (s.quiesce.get b).state = .quiesced) →
        t.orderAt e = some (
          if o.stage = .halted then { o' with timer := none }
          else if s.outsideCauses c = noCauses then { o' with timer := some { age := 0 }, causes := noCauses, stage := .carry }
          else { o' with stage := .halted, timer := none, causes := s.outsideCauses c }) ∧
        (∀ b, s.bedUnder b w.span = true → t.quiesce.get b = { s.quiesce.get b with holders :=
          { (s.quiesce.get b).holders with order := (s.quiesce.get b).holders.order.set c (some o.tag) } }) ∧
        (∀ b, s.bedUnder b w.span = false → (s.quiesce.get b).holders.order.get c ≠ some o.tag →
          t.quiesce.get b = s.quiesce.get b) ∧
        (∀ b, s.bedUnder b w.span = false → (s.quiesce.get b).holders.order.get c = some o.tag →
          (t.quiesce.get b).holders.order = (s.quiesce.get b).holders.order.set c none ∧
          ((s.quiesce.get b).holders.order.get c.other = none → (s.quiesce.get b).holders.hall = false →
            (s.quiesce.get b).state ≠ .running → (t.quiesce.get b).state = .running ∧
            (t.links.get (.bed b)).queue = (s.links.get (.bed b)).queue ++
              (if 16 ≤ (s.links.get (.bed b)).queue.length then [] else [.resume (s.quiesce.get b).session]))) ∧
        ((s.links.get (.crane c)).queue.length < 15 → ∃ g more, (t.links.get (.crane c)).queue =
            (s.links.get (.crane c)).queue ++ .orderGranted g :: more ∧ g.tag = o.tag ∧ g.span = w.span ∧
          g.corridor = w.corridor ∧ g.dest = some (.stack n) ∧ (∀ b, g.held.get b = s.bedUnder b w.span) ∧
          g.stage = (if o.stage = .carry ∧ s.outsideCauses c = noCauses then .carry else .halted))) ∧
      ((∃ b, s.bedUnder b w.span = true ∧ (s.quiesce.get b).state ≠ .quiesced) →
        (∀ b, s.bedUnder b w.span = true → (s.quiesce.get b).state = .running → s.linkUp (.bed b) = true) →
        t.orderAt e = some { o' with
          stage := .reserving
          timer := some { age := 0 }
          redirect := some
            { haltedReturn := decide (o.stage = .halted), before := o.sweep, cleared := true
              joined :=
                ⟨s.bedUnder .one w.span && (s.quiesce.get .one).holders.order.get c ≠ some o.tag,
                 s.bedUnder .two w.span && (s.quiesce.get .two).holders.order.get c ≠ some o.tag⟩ } } ∧
        ∀ b, s.bedUnder b w.span = true → (t.quiesce.get b).holders.order.get c = some o.tag)) ∧
  (∀ (s : State) (r : Req) (b : Bed) (e : Nat) (o : Order) (d : Redirect) (w : Sweep), s.ready r (.bed b) .run →
    (s.quiesce.get b).state = .parking → (s.arcs.get b).rise = none → s.activeOrder o.crane = some (e, o) →
    o.stage = .reserving → o.redirect = some d → d.cleared = true → o.sweep = some w → s.bedUnder b w.span = true →
    s.bedUnder b.other w.span = false → (s.quiesce.get b.other).holders.order.get o.crane ≠ some o.tag →
    (s.quiesce.get b).holders.order.get o.crane = some o.tag →
    (s.quiesce.get b).holders.order.get o.crane.other = none →
    ∃ t, exec (.parked r (s.quiesce.get b).session) s = .next t ∧ (t.quiesce.get b).state = .quiesced ∧
      (t.quiesce.get b).holders = (s.quiesce.get b).holders ∧
      t.orderAt e = some (
        if d.haltedReturn = true then { o with stage := .halted, timer := none, redirect := none }
        else if s.outsideCauses o.crane = noCauses then { o with
          stage := match o.remembered with | .reserving => .reserving | .pickup => .pickup | .carry => .carry
          timer := some { age := 0 }, causes := noCauses, redirect := none }
        else { o with stage := .halted, timer := none, causes := s.outsideCauses o.crane, redirect := none }))

/-- Giving up a span request, and asking again. The expiry of a loaded order in RESERVING withdraws its request. In a REDIRECT's wait
it becomes HALTED in its return stage with TIMEOUT and MISPLACED, the figures from before its grant standing again (which these
are: log 38), and leaves the beds joined for it; else it becomes HALTED with TIMEOUT, remembering RESERVING, without a span, and leaves every bed. RESUME
of an order HALTED in RESERVING without a lasting cause: one that holds its span leaves RESERVING at once when every bed it
needs is QUIESCED for it, else it waits on; one that gave its request up computes its span anew and asks for it. That RESUME answers
stage RESERVING, also where the order leaves it at once, is the model's choice (log 27). -/
def Obligations.RequestsAreGivenUpAndMadeAgain : Prop :=
  (∀ (s : State) (e : Nat) (o : Order), s.orderAt e = some o → AtItsTick s e .wait → o.stage = .reserving →
    s.hookLoaded o.crane = true → (s.runway.get o.crane.other).request = none →
    ∃ t, exec (.orderExpiry e) s = .next t ∧ t.hooks = s.hooks ∧ t.slots = s.slots ∧
      (t.runway.get o.crane).request = (s.runway.get o.crane).request.filter (fun q => q.tag ≠ o.tag) ∧
      (∀ d, o.redirect = some d →
        t.orderAt e = some { o with
          stage := .halted, timer := none, redirect := none, sweep := if d.cleared then d.before else o.sweep,
          causes := { o.causes with timeout := true, misplaced := true } } ∧
        (t.runway.get o.crane).span = (s.runway.get o.crane).span ∧
        (∀ b, d.joined.get b = false → t.quiesce.get b = s.quiesce.get b) ∧
        (∀ b, d.joined.get b = true → (t.quiesce.get b).holders.order.get o.crane ≠ some o.tag)) ∧
      (o.redirect = none →
        t.orderAt e = some { o with
          stage := .halted, remembered := .reserving, timer := none, sweep := none, spanHeld := false,
          causes := { o.causes with timeout := true } } ∧
        (o.spanHeld = true → ∀ b, (t.quiesce.get b).holders.order.get o.crane ≠ some o.tag) ∧
        (o.spanHeld = false → t.quiesce = s.quiesce ∧ (t.runway.get o.crane).span = (s.runway.get o.crane).span))) ∧
  (∀ (s : State) (r : Req) (c : Crane) (e : Nat) (o o' : Order), s.ready r (.crane c) .run →
    s.activeOrder c = some (e, o) → s.findOrder ⟨c, o.tag⟩ = some (e, o) → o.stage = .halted →
    o.remembered = .reserving → o.redirect = none →
    o.causes = { noCauses with operator := o.causes.operator, timeout := o.causes.timeout } →
    (s.runway.get c.other).request = none →
    o' = { o with stage := .reserving, timer := some { age := 0 }, causes := noCauses } →
    ∃ t, exec (.resume r o.tag) s = .next t ∧ t.txAnswer = some ⟨r.link, .resume, r.tag, .ok, .stage .reserving⟩ ∧
      ((∀ b, (s.quiesce.get b).state = .running → (s.quiesce.get b).holders.order.get c.other = none) →
        ∀ d, d ≠ e → t.entry d = s.entry d) ∧
      (o.spanHeld = true →
        ((∀ b, (s.quiesce.get b).holders.order.get c = some o.tag ∨
            (∃ w, o.sweep = some w ∧ s.bedUnder b w.span = true) →
          (s.quiesce.get b).holders.order.get c = some o.tag ∧ (s.quiesce.get b).state = .quiesced) →
          t.orderAt e = some (s.leftReserving o')) ∧
        ((∃ b, ((s.quiesce.get b).holders.order.get c = some o.tag ∨
              ∃ w, o.sweep = some w ∧ s.bedUnder b w.span = true) ∧
            ¬((s.quiesce.get b).holders.order.get c = some o.tag ∧ (s.quiesce.get b).state = .quiesced)) →
          t.orderAt e = some o')) ∧
      (o.spanHeld = false → (s.runway.get c).lastX = none → t.orderAt e = some { o' with sweep := none }) ∧
      (∀ x0 n v u w, o.spanHeld = false → (s.runway.get c).lastX = some x0 → o.kind = .move → o.source = some (.hook c) →
        o.dest = .place (.stack n) → o.records = [] → s.hook c ≠ [] → s.hungSkeleton c = none →
        (s.runway.get c).span = some v →
        (s.runway.get c.other).span = some u →
        w = { extent := s.hookExtent c
              span := widen s.committed.runway (min x0 (s.committed.stack n).centre.x)
                (max x0 (s.committed.stack n).centre.x) (s.hookExtent c + (s.committed.cranes.get c).clearance)
              corridor := widen s.committed.runway (min x0 (s.committed.stack n).centre.x)
                (max x0 (s.committed.stack n).centre.x) (s.committed.cranes.get c).clearance } →
        min w.span.lo v.range.lo ≤ u.range.hi → u.range.lo ≤ max w.span.hi v.range.hi →
        t.orderAt e = some { o' with sweep := some w } ∧
        t.runway = s.runway.set c { s.runway.get c with request := some ⟨o.tag, w⟩ }))

/-- The QUEUED order of a crane is activated within the event that ends the active one, here an ABANDON in RESERVING without a span:
it passes the checks of R154 in the state the end has left. Passing, it is taken in RESERVING with age 0, books its records and
its room, and asks for its span; failing, it ends REFUSED with the failing code, its entry freed, its notice behind that of the
ended order. -/
def Obligations.QueuedOrdersAreActivated : Prop :=
  ∀ (s s' : State) (r : Req) (c : Crane) (e d : Nat) (o p p' : Order), s.ready r (.crane c) .run →
    s.activeOrder c = some (e, o) → s.findOrder ⟨c, o.tag⟩ = some (e, o) → s.queuedOrder c = some (d, p) →
    (∀ x y, s.orderAt x = some y → y.crane = c → x = e ∨ x = d) →
    s.hookLoaded c = false → o.stage = .reserving → o.records = [] → o.spanHeld = false →
    (∀ b, (s.quiesce.get b).holders.order.get c ≠ some o.tag) →
    s' = { s with
      shared := s.shared.setIfInBounds (e - 2) none
      runway := s.runway.set c { s.runway.get c with request := (s.runway.get c).request.filter fun q => q.tag ≠ o.tag } } →
    p' = s'.withRecords p → p'.records.Nodup →
    ∃ t, exec (.abandon r o.tag) s = .next t ∧ t.txAnswer = some ⟨r.link, .abandon, r.tag, .ok, .empty⟩ ∧
      t.entry e = none ∧
      ((s.runway.get c.other).request = none →
        (∀ b, (s.quiesce.get b).state = .running → (s.quiesce.get b).holders.order.get c.other = none) →
        ∀ k, k ≠ e → k ≠ d → t.entry k = s.entry k) ∧
      (∀ code, s'.acceptance p' = some code → t.entry d = none ∧ t.runway = s'.runway ∧ t.slots = s.slots ∧
        ∃ cond, ((code = .badPlace ∧ cond = .refusedBadPlace) ∨ (code = .notTop ∧ cond = .refusedNotTop) ∨
            (code = .noRoom ∧ cond = .refusedNoRoom) ∨ (code = .overload ∧ cond = .refusedOverload) ∨
            (code = .busy ∧ cond = .refusedBusy)) ∧
          ((s.links.get (.crane c)).queue.length < 15 → (t.links.get (.crane c)).queue = (s.links.get (.crane c)).queue ++
            [.orderEnd ⟨c, o.tag, .abandoned, none, o.short, o.left, o.extras⟩,
             .orderEnd ⟨c, p.tag, cond, none, p.short, p.left, p.extras⟩])) ∧
      (s'.acceptance p' = none →
        (∀ h ∈ p'.records, ∀ q, s.recordOf h = some q → t.recordOf h = some
          (if q.custody = .rest ∧ q.booking = none then { q with booking := some ⟨c, p.tag⟩ }
           else { q with waitSlot := some ⟨c, p.tag⟩ })) ∧
        (∀ h, h ∉ p'.records → t.recordOf h = s.recordOf h) ∧
        ((s.runway.get c).lastX = none ∨
            (∃ h ∈ p'.records, ∃ q, s.recordOf h = some q ∧ (q.custody ≠ .rest ∨ q.booking ≠ none) ∧
              q.booking ≠ some ⟨c, p.tag⟩) →
          t.runway = s'.runway ∧ t.orderAt d = some { p' with
            stage := .reserving
            timer := some { age := 0 }
            skeleton := if p.kind = .skeleton then .booked else .none
            sweep := s'.firstSweep p'
            inbound := s'.inboundFor p' }) ∧
        (∀ w v u, s'.firstSweep p' = some w → p'.redirect = none → p'.spanHeld = false →
          (∀ h ∈ p'.records, ∃ q, s.recordOf h = some q ∧ q.custody = .rest ∧ q.booking = none) →
          (s.runway.get c).span = some v → (s.runway.get c.other).span = some u →
          min w.span.lo v.range.lo ≤ u.range.hi → u.range.lo ≤ max w.span.hi v.range.hi →
          t.runway = s'.runway.set c { s'.runway.get c with request := some ⟨p.tag, w⟩ } ∧
          t.orderAt d = some { p' with
            stage := .reserving
            timer := some { age := 0 }
            skeleton := if p.kind = .skeleton then .booked else .none
            sweep := some w
            inbound := s'.inboundFor p' }))
end

