-- ==== Sys2Proof/Laws/State.lean ====
section
/-! SUPPORT. What each plain update of State leaves and writes: one lemma per field per update, true by unfolding. -/

namespace Sys2Proof.Machine

open Sys2Proof

variable (s : State)

/-! ### quiet -/

@[simp] theorem State.quiet_part : (s.quiet).part = s.part := rfl
@[simp] theorem State.quiet_validMark : (s.quiet).validMark = s.validMark := rfl
@[simp] theorem State.quiet_restartOwed : (s.quiet).restartOwed = s.restartOwed := rfl
@[simp] theorem State.quiet_hallTime : (s.quiet).hallTime = s.hallTime := rfl
@[simp] theorem State.quiet_nextTick : (s.quiet).nextTick = s.nextTick := rfl
@[simp] theorem State.quiet_ticked : (s.quiet).ticked = s.ticked := rfl
@[simp] theorem State.quiet_eStop : (s.quiet).eStop = s.eStop := rfl
@[simp] theorem State.quiet_links : (s.quiet).links = s.links := rfl
@[simp] theorem State.quiet_mask : (s.quiet).mask = s.mask := rfl
@[simp] theorem State.quiet_txAnswer : (s.quiet).txAnswer = none := rfl
@[simp] theorem State.quiet_txNotice : (s.quiet).txNotice = none := rfl
@[simp] theorem State.quiet_committed : (s.quiet).committed = s.committed := rfl
@[simp] theorem State.quiet_staged : (s.quiet).staged = s.staged := rfl
@[simp] theorem State.quiet_slots : (s.quiet).slots = s.slots := rfl
@[simp] theorem State.quiet_piles : (s.quiet).piles = s.piles := rfl
@[simp] theorem State.quiet_stations : (s.quiet).stations = s.stations := rfl
@[simp] theorem State.quiet_infeed : (s.quiet).infeed = s.infeed := rfl
@[simp] theorem State.quiet_hooks : (s.quiet).hooks = s.hooks := rfl
@[simp] theorem State.quiet_active : (s.quiet).active = s.active := rfl
@[simp] theorem State.quiet_claims : (s.quiet).claims = s.claims := rfl
@[simp] theorem State.quiet_arcs : (s.quiet).arcs = s.arcs := rfl
@[simp] theorem State.quiet_consumables : (s.quiet).consumables = s.consumables := rfl
@[simp] theorem State.quiet_beacon : (s.quiet).beacon = s.beacon := rfl
@[simp] theorem State.quiet_quiesce : (s.quiet).quiesce = s.quiesce := rfl
@[simp] theorem State.quiet_permit : (s.quiet).permit = s.permit := rfl
@[simp] theorem State.quiet_runway : (s.quiet).runway = s.runway := rfl
@[simp] theorem State.quiet_motion : (s.quiet).motion = s.motion := rfl
@[simp] theorem State.quiet_shared : (s.quiet).shared = s.shared := rfl
@[simp] theorem State.quiet_pending : (s.quiet).pending = s.pending := rfl

/-! ### answer -/

@[simp] theorem State.answer_part (r : Req) (k : RequestKind) (v : Status) (b : AnswerBody) :
    (s.answer r k v b).part = s.part := rfl
@[simp] theorem State.answer_validMark (r : Req) (k : RequestKind) (v : Status) (b : AnswerBody) :
    (s.answer r k v b).validMark = s.validMark := rfl
@[simp] theorem State.answer_restartOwed (r : Req) (k : RequestKind) (v : Status) (b : AnswerBody) :
    (s.answer r k v b).restartOwed = s.restartOwed := rfl
@[simp] theorem State.answer_hallTime (r : Req) (k : RequestKind) (v : Status) (b : AnswerBody) :
    (s.answer r k v b).hallTime = s.hallTime := rfl
@[simp] theorem State.answer_nextTick (r : Req) (k : RequestKind) (v : Status) (b : AnswerBody) :
    (s.answer r k v b).nextTick = s.nextTick := rfl
@[simp] theorem State.answer_ticked (r : Req) (k : RequestKind) (v : Status) (b : AnswerBody) :
    (s.answer r k v b).ticked = s.ticked := rfl
@[simp] theorem State.answer_eStop (r : Req) (k : RequestKind) (v : Status) (b : AnswerBody) :
    (s.answer r k v b).eStop = s.eStop := rfl
@[simp] theorem State.answer_links (r : Req) (k : RequestKind) (v : Status) (b : AnswerBody) :
    (s.answer r k v b).links = s.links := rfl
@[simp] theorem State.answer_mask (r : Req) (k : RequestKind) (v : Status) (b : AnswerBody) :
    (s.answer r k v b).mask = s.mask := rfl
@[simp] theorem State.answer_txAnswer (r : Req) (k : RequestKind) (v : Status) (b : AnswerBody) :
    (s.answer r k v b).txAnswer = some { link := r.link, kind := k, tag := r.tag, status := v, body := b } := rfl
@[simp] theorem State.answer_txNotice (r : Req) (k : RequestKind) (v : Status) (b : AnswerBody) :
    (s.answer r k v b).txNotice = s.txNotice := rfl
@[simp] theorem State.answer_committed (r : Req) (k : RequestKind) (v : Status) (b : AnswerBody) :
    (s.answer r k v b).committed = s.committed := rfl
@[simp] theorem State.answer_staged (r : Req) (k : RequestKind) (v : Status) (b : AnswerBody) :
    (s.answer r k v b).staged = s.staged := rfl
@[simp] theorem State.answer_slots (r : Req) (k : RequestKind) (v : Status) (b : AnswerBody) :
    (s.answer r k v b).slots = s.slots := rfl
@[simp] theorem State.answer_piles (r : Req) (k : RequestKind) (v : Status) (b : AnswerBody) :
    (s.answer r k v b).piles = s.piles := rfl
@[simp] theorem State.answer_stations (r : Req) (k : RequestKind) (v : Status) (b : AnswerBody) :
    (s.answer r k v b).stations = s.stations := rfl
@[simp] theorem State.answer_infeed (r : Req) (k : RequestKind) (v : Status) (b : AnswerBody) :
    (s.answer r k v b).infeed = s.infeed := rfl
@[simp] theorem State.answer_hooks (r : Req) (k : RequestKind) (v : Status) (b : AnswerBody) :
    (s.answer r k v b).hooks = s.hooks := rfl
@[simp] theorem State.answer_active (r : Req) (k : RequestKind) (v : Status) (b : AnswerBody) :
    (s.answer r k v b).active = s.active := rfl
@[simp] theorem State.answer_claims (r : Req) (k : RequestKind) (v : Status) (b : AnswerBody) :
    (s.answer r k v b).claims = s.claims := rfl
@[simp] theorem State.answer_arcs (r : Req) (k : RequestKind) (v : Status) (b : AnswerBody) :
    (s.answer r k v b).arcs = s.arcs := rfl
@[simp] theorem State.answer_consumables (r : Req) (k : RequestKind) (v : Status) (b : AnswerBody) :
    (s.answer r k v b).consumables = s.consumables := rfl
@[simp] theorem State.answer_beacon (r : Req) (k : RequestKind) (v : Status) (b : AnswerBody) :
    (s.answer r k v b).beacon = s.beacon := rfl
@[simp] theorem State.answer_quiesce (r : Req) (k : RequestKind) (v : Status) (b : AnswerBody) :
    (s.answer r k v b).quiesce = s.quiesce := rfl
@[simp] theorem State.answer_permit (r : Req) (k : RequestKind) (v : Status) (b : AnswerBody) :
    (s.answer r k v b).permit = s.permit := rfl
@[simp] theorem State.answer_runway (r : Req) (k : RequestKind) (v : Status) (b : AnswerBody) :
    (s.answer r k v b).runway = s.runway := rfl
@[simp] theorem State.answer_motion (r : Req) (k : RequestKind) (v : Status) (b : AnswerBody) :
    (s.answer r k v b).motion = s.motion := rfl
@[simp] theorem State.answer_shared (r : Req) (k : RequestKind) (v : Status) (b : AnswerBody) :
    (s.answer r k v b).shared = s.shared := rfl
@[simp] theorem State.answer_pending (r : Req) (k : RequestKind) (v : Status) (b : AnswerBody) :
    (s.answer r k v b).pending = s.pending := rfl

/-! ### setSlot -/

@[simp] theorem State.setSlot_part (i : Nat) (v : Slot) : (s.setSlot i v).part = s.part := rfl
@[simp] theorem State.setSlot_validMark (i : Nat) (v : Slot) : (s.setSlot i v).validMark = s.validMark := rfl
@[simp] theorem State.setSlot_restartOwed (i : Nat) (v : Slot) : (s.setSlot i v).restartOwed = s.restartOwed := rfl
@[simp] theorem State.setSlot_hallTime (i : Nat) (v : Slot) : (s.setSlot i v).hallTime = s.hallTime := rfl
@[simp] theorem State.setSlot_nextTick (i : Nat) (v : Slot) : (s.setSlot i v).nextTick = s.nextTick := rfl
@[simp] theorem State.setSlot_ticked (i : Nat) (v : Slot) : (s.setSlot i v).ticked = s.ticked := rfl
@[simp] theorem State.setSlot_eStop (i : Nat) (v : Slot) : (s.setSlot i v).eStop = s.eStop := rfl
@[simp] theorem State.setSlot_links (i : Nat) (v : Slot) : (s.setSlot i v).links = s.links := rfl
@[simp] theorem State.setSlot_mask (i : Nat) (v : Slot) : (s.setSlot i v).mask = s.mask := rfl
@[simp] theorem State.setSlot_txAnswer (i : Nat) (v : Slot) : (s.setSlot i v).txAnswer = s.txAnswer := rfl
@[simp] theorem State.setSlot_txNotice (i : Nat) (v : Slot) : (s.setSlot i v).txNotice = s.txNotice := rfl
@[simp] theorem State.setSlot_committed (i : Nat) (v : Slot) : (s.setSlot i v).committed = s.committed := rfl
@[simp] theorem State.setSlot_staged (i : Nat) (v : Slot) : (s.setSlot i v).staged = s.staged := rfl
@[simp] theorem State.setSlot_slots (i : Nat) (v : Slot) : (s.setSlot i v).slots = s.slots.setIfInBounds i v := rfl
@[simp] theorem State.setSlot_piles (i : Nat) (v : Slot) : (s.setSlot i v).piles = s.piles := rfl
@[simp] theorem State.setSlot_stations (i : Nat) (v : Slot) : (s.setSlot i v).stations = s.stations := rfl
@[simp] theorem State.setSlot_infeed (i : Nat) (v : Slot) : (s.setSlot i v).infeed = s.infeed := rfl
@[simp] theorem State.setSlot_hooks (i : Nat) (v : Slot) : (s.setSlot i v).hooks = s.hooks := rfl
@[simp] theorem State.setSlot_active (i : Nat) (v : Slot) : (s.setSlot i v).active = s.active := rfl
@[simp] theorem State.setSlot_claims (i : Nat) (v : Slot) : (s.setSlot i v).claims = s.claims := rfl
@[simp] theorem State.setSlot_arcs (i : Nat) (v : Slot) : (s.setSlot i v).arcs = s.arcs := rfl
@[simp] theorem State.setSlot_consumables (i : Nat) (v : Slot) : (s.setSlot i v).consumables = s.consumables := rfl
@[simp] theorem State.setSlot_beacon (i : Nat) (v : Slot) : (s.setSlot i v).beacon = s.beacon := rfl
@[simp] theorem State.setSlot_quiesce (i : Nat) (v : Slot) : (s.setSlot i v).quiesce = s.quiesce := rfl
@[simp] theorem State.setSlot_permit (i : Nat) (v : Slot) : (s.setSlot i v).permit = s.permit := rfl
@[simp] theorem State.setSlot_runway (i : Nat) (v : Slot) : (s.setSlot i v).runway = s.runway := rfl
@[simp] theorem State.setSlot_motion (i : Nat) (v : Slot) : (s.setSlot i v).motion = s.motion := rfl
@[simp] theorem State.setSlot_shared (i : Nat) (v : Slot) : (s.setSlot i v).shared = s.shared := rfl
@[simp] theorem State.setSlot_pending (i : Nat) (v : Slot) : (s.setSlot i v).pending = s.pending := rfl

/-! ### setPile -/

@[simp] theorem State.setPile_part (n : Nat) (v : List Handle) : (s.setPile n v).part = s.part := rfl
@[simp] theorem State.setPile_validMark (n : Nat) (v : List Handle) : (s.setPile n v).validMark = s.validMark := rfl
@[simp] theorem State.setPile_restartOwed (n : Nat) (v : List Handle) :
    (s.setPile n v).restartOwed = s.restartOwed := rfl
@[simp] theorem State.setPile_hallTime (n : Nat) (v : List Handle) : (s.setPile n v).hallTime = s.hallTime := rfl
@[simp] theorem State.setPile_nextTick (n : Nat) (v : List Handle) : (s.setPile n v).nextTick = s.nextTick := rfl
@[simp] theorem State.setPile_ticked (n : Nat) (v : List Handle) : (s.setPile n v).ticked = s.ticked := rfl
@[simp] theorem State.setPile_eStop (n : Nat) (v : List Handle) : (s.setPile n v).eStop = s.eStop := rfl
@[simp] theorem State.setPile_links (n : Nat) (v : List Handle) : (s.setPile n v).links = s.links := rfl
@[simp] theorem State.setPile_mask (n : Nat) (v : List Handle) : (s.setPile n v).mask = s.mask := rfl
@[simp] theorem State.setPile_txAnswer (n : Nat) (v : List Handle) : (s.setPile n v).txAnswer = s.txAnswer := rfl
@[simp] theorem State.setPile_txNotice (n : Nat) (v : List Handle) : (s.setPile n v).txNotice = s.txNotice := rfl
@[simp] theorem State.setPile_committed (n : Nat) (v : List Handle) : (s.setPile n v).committed = s.committed := rfl
@[simp] theorem State.setPile_staged (n : Nat) (v : List Handle) : (s.setPile n v).staged = s.staged := rfl
@[simp] theorem State.setPile_slots (n : Nat) (v : List Handle) : (s.setPile n v).slots = s.slots := rfl
@[simp] theorem State.setPile_piles (n : Nat) (v : List Handle) :
    (s.setPile n v).piles = s.piles.setIfInBounds n v := rfl
@[simp] theorem State.setPile_stations (n : Nat) (v : List Handle) : (s.setPile n v).stations = s.stations := rfl
@[simp] theorem State.setPile_infeed (n : Nat) (v : List Handle) : (s.setPile n v).infeed = s.infeed := rfl
@[simp] theorem State.setPile_hooks (n : Nat) (v : List Handle) : (s.setPile n v).hooks = s.hooks := rfl
@[simp] theorem State.setPile_active (n : Nat) (v : List Handle) : (s.setPile n v).active = s.active := rfl
@[simp] theorem State.setPile_claims (n : Nat) (v : List Handle) : (s.setPile n v).claims = s.claims := rfl
@[simp] theorem State.setPile_arcs (n : Nat) (v : List Handle) : (s.setPile n v).arcs = s.arcs := rfl
@[simp] theorem State.setPile_consumables (n : Nat) (v : List Handle) :
    (s.setPile n v).consumables = s.consumables := rfl
@[simp] theorem State.setPile_beacon (n : Nat) (v : List Handle) : (s.setPile n v).beacon = s.beacon := rfl
@[simp] theorem State.setPile_quiesce (n : Nat) (v : List Handle) : (s.setPile n v).quiesce = s.quiesce := rfl
@[simp] theorem State.setPile_permit (n : Nat) (v : List Handle) : (s.setPile n v).permit = s.permit := rfl
@[simp] theorem State.setPile_runway (n : Nat) (v : List Handle) : (s.setPile n v).runway = s.runway := rfl
@[simp] theorem State.setPile_motion (n : Nat) (v : List Handle) : (s.setPile n v).motion = s.motion := rfl
@[simp] theorem State.setPile_shared (n : Nat) (v : List Handle) : (s.setPile n v).shared = s.shared := rfl
@[simp] theorem State.setPile_pending (n : Nat) (v : List Handle) : (s.setPile n v).pending = s.pending := rfl

/-! ### setStation -/

@[simp] theorem State.setStation_part (b : Bed) (st : Station) (v : StationState) :
    (s.setStation b st v).part = s.part := rfl
@[simp] theorem State.setStation_validMark (b : Bed) (st : Station) (v : StationState) :
    (s.setStation b st v).validMark = s.validMark := rfl
@[simp] theorem State.setStation_restartOwed (b : Bed) (st : Station) (v : StationState) :
    (s.setStation b st v).restartOwed = s.restartOwed := rfl
@[simp] theorem State.setStation_hallTime (b : Bed) (st : Station) (v : StationState) :
    (s.setStation b st v).hallTime = s.hallTime := rfl
@[simp] theorem State.setStation_nextTick (b : Bed) (st : Station) (v : StationState) :
    (s.setStation b st v).nextTick = s.nextTick := rfl
@[simp] theorem State.setStation_ticked (b : Bed) (st : Station) (v : StationState) :
    (s.setStation b st v).ticked = s.ticked := rfl
@[simp] theorem State.setStation_eStop (b : Bed) (st : Station) (v : StationState) :
    (s.setStation b st v).eStop = s.eStop := rfl
@[simp] theorem State.setStation_links (b : Bed) (st : Station) (v : StationState) :
    (s.setStation b st v).links = s.links := rfl
@[simp] theorem State.setStation_mask (b : Bed) (st : Station) (v : StationState) :
    (s.setStation b st v).mask = s.mask := rfl
@[simp] theorem State.setStation_txAnswer (b : Bed) (st : Station) (v : StationState) :
    (s.setStation b st v).txAnswer = s.txAnswer := rfl
@[simp] theorem State.setStation_txNotice (b : Bed) (st : Station) (v : StationState) :
    (s.setStation b st v).txNotice = s.txNotice := rfl
@[simp] theorem State.setStation_committed (b : Bed) (st : Station) (v : StationState) :
    (s.setStation b st v).committed = s.committed := rfl
@[simp] theorem State.setStation_staged (b : Bed) (st : Station) (v : StationState) :
    (s.setStation b st v).staged = s.staged := rfl
@[simp] theorem State.setStation_slots (b : Bed) (st : Station) (v : StationState) :
    (s.setStation b st v).slots = s.slots := rfl
@[simp] theorem State.setStation_piles (b : Bed) (st : Station) (v : StationState) :
    (s.setStation b st v).piles = s.piles := rfl
@[simp] theorem State.setStation_stations (b : Bed) (st : Station) (v : StationState) :
    (s.setStation b st v).stations = s.stations.set b ((s.stations.get b).set st v) := rfl
@[simp] theorem State.setStation_infeed (b : Bed) (st : Station) (v : StationState) :
    (s.setStation b st v).infeed = s.infeed := rfl
@[simp] theorem State.setStation_hooks (b : Bed) (st : Station) (v : StationState) :
    (s.setStation b st v).hooks = s.hooks := rfl
@[simp] theorem State.setStation_active (b : Bed) (st : Station) (v : StationState) :
    (s.setStation b st v).active = s.active := rfl
@[simp] theorem State.setStation_claims (b : Bed) (st : Station) (v : StationState) :
    (s.setStation b st v).claims = s.claims := rfl
@[simp] theorem State.setStation_arcs (b : Bed) (st : Station) (v : StationState) :
    (s.setStation b st v).arcs = s.arcs := rfl
@[simp] theorem State.setStation_consumables (b : Bed) (st : Station) (v : StationState) :
    (s.setStation b st v).consumables = s.consumables := rfl
@[simp] theorem State.setStation_beacon (b : Bed) (st : Station) (v : StationState) :
    (s.setStation b st v).beacon = s.beacon := rfl
@[simp] theorem State.setStation_quiesce (b : Bed) (st : Station) (v : StationState) :
    (s.setStation b st v).quiesce = s.quiesce := rfl
@[simp] theorem State.setStation_permit (b : Bed) (st : Station) (v : StationState) :
    (s.setStation b st v).permit = s.permit := rfl
@[simp] theorem State.setStation_runway (b : Bed) (st : Station) (v : StationState) :
    (s.setStation b st v).runway = s.runway := rfl
@[simp] theorem State.setStation_motion (b : Bed) (st : Station) (v : StationState) :
    (s.setStation b st v).motion = s.motion := rfl
@[simp] theorem State.setStation_shared (b : Bed) (st : Station) (v : StationState) :
    (s.setStation b st v).shared = s.shared := rfl
@[simp] theorem State.setStation_pending (b : Bed) (st : Station) (v : StationState) :
    (s.setStation b st v).pending = s.pending := rfl

/-! ### setHook -/

@[simp] theorem State.setHook_part (c : Crane) (v : List Handle) : (s.setHook c v).part = s.part := rfl
@[simp] theorem State.setHook_validMark (c : Crane) (v : List Handle) : (s.setHook c v).validMark = s.validMark := rfl
@[simp] theorem State.setHook_restartOwed (c : Crane) (v : List Handle) :
    (s.setHook c v).restartOwed = s.restartOwed := rfl
@[simp] theorem State.setHook_hallTime (c : Crane) (v : List Handle) : (s.setHook c v).hallTime = s.hallTime := rfl
@[simp] theorem State.setHook_nextTick (c : Crane) (v : List Handle) : (s.setHook c v).nextTick = s.nextTick := rfl
@[simp] theorem State.setHook_ticked (c : Crane) (v : List Handle) : (s.setHook c v).ticked = s.ticked := rfl
@[simp] theorem State.setHook_eStop (c : Crane) (v : List Handle) : (s.setHook c v).eStop = s.eStop := rfl
@[simp] theorem State.setHook_links (c : Crane) (v : List Handle) : (s.setHook c v).links = s.links := rfl
@[simp] theorem State.setHook_mask (c : Crane) (v : List Handle) : (s.setHook c v).mask = s.mask := rfl
@[simp] theorem State.setHook_txAnswer (c : Crane) (v : List Handle) : (s.setHook c v).txAnswer = s.txAnswer := rfl
@[simp] theorem State.setHook_txNotice (c : Crane) (v : List Handle) : (s.setHook c v).txNotice = s.txNotice := rfl
@[simp] theorem State.setHook_committed (c : Crane) (v : List Handle) : (s.setHook c v).committed = s.committed := rfl
@[simp] theorem State.setHook_staged (c : Crane) (v : List Handle) : (s.setHook c v).staged = s.staged := rfl
@[simp] theorem State.setHook_slots (c : Crane) (v : List Handle) : (s.setHook c v).slots = s.slots := rfl
@[simp] theorem State.setHook_piles (c : Crane) (v : List Handle) : (s.setHook c v).piles = s.piles := rfl
@[simp] theorem State.setHook_stations (c : Crane) (v : List Handle) : (s.setHook c v).stations = s.stations := rfl
@[simp] theorem State.setHook_infeed (c : Crane) (v : List Handle) : (s.setHook c v).infeed = s.infeed := rfl
@[simp] theorem State.setHook_hooks (c : Crane) (v : List Handle) : (s.setHook c v).hooks = s.hooks.set c v := rfl
@[simp] theorem State.setHook_active (c : Crane) (v : List Handle) : (s.setHook c v).active = s.active := rfl
@[simp] theorem State.setHook_claims (c : Crane) (v : List Handle) : (s.setHook c v).claims = s.claims := rfl
@[simp] theorem State.setHook_arcs (c : Crane) (v : List Handle) : (s.setHook c v).arcs = s.arcs := rfl
@[simp] theorem State.setHook_consumables (c : Crane) (v : List Handle) :
    (s.setHook c v).consumables = s.consumables := rfl
@[simp] theorem State.setHook_beacon (c : Crane) (v : List Handle) : (s.setHook c v).beacon = s.beacon := rfl
@[simp] theorem State.setHook_quiesce (c : Crane) (v : List Handle) : (s.setHook c v).quiesce = s.quiesce := rfl
@[simp] theorem State.setHook_permit (c : Crane) (v : List Handle) : (s.setHook c v).permit = s.permit := rfl
@[simp] theorem State.setHook_runway (c : Crane) (v : List Handle) : (s.setHook c v).runway = s.runway := rfl
@[simp] theorem State.setHook_motion (c : Crane) (v : List Handle) : (s.setHook c v).motion = s.motion := rfl
@[simp] theorem State.setHook_shared (c : Crane) (v : List Handle) : (s.setHook c v).shared = s.shared := rfl
@[simp] theorem State.setHook_pending (c : Crane) (v : List Handle) : (s.setHook c v).pending = s.pending := rfl

/-! ### modQuiesce -/

@[simp] theorem State.modQuiesce_part (b : Bed) (f : Quiesce → Quiesce) : (s.modQuiesce b f).part = s.part := rfl
@[simp] theorem State.modQuiesce_validMark (b : Bed) (f : Quiesce → Quiesce) :
    (s.modQuiesce b f).validMark = s.validMark := rfl
@[simp] theorem State.modQuiesce_restartOwed (b : Bed) (f : Quiesce → Quiesce) :
    (s.modQuiesce b f).restartOwed = s.restartOwed := rfl
@[simp] theorem State.modQuiesce_hallTime (b : Bed) (f : Quiesce → Quiesce) :
    (s.modQuiesce b f).hallTime = s.hallTime := rfl
@[simp] theorem State.modQuiesce_nextTick (b : Bed) (f : Quiesce → Quiesce) :
    (s.modQuiesce b f).nextTick = s.nextTick := rfl
@[simp] theorem State.modQuiesce_ticked (b : Bed) (f : Quiesce → Quiesce) : (s.modQuiesce b f).ticked = s.ticked := rfl
@[simp] theorem State.modQuiesce_eStop (b : Bed) (f : Quiesce → Quiesce) : (s.modQuiesce b f).eStop = s.eStop := rfl
@[simp] theorem State.modQuiesce_links (b : Bed) (f : Quiesce → Quiesce) : (s.modQuiesce b f).links = s.links := rfl
@[simp] theorem State.modQuiesce_mask (b : Bed) (f : Quiesce → Quiesce) : (s.modQuiesce b f).mask = s.mask := rfl
@[simp] theorem State.modQuiesce_txAnswer (b : Bed) (f : Quiesce → Quiesce) :
    (s.modQuiesce b f).txAnswer = s.txAnswer := rfl
@[simp] theorem State.modQuiesce_txNotice (b : Bed) (f : Quiesce → Quiesce) :
    (s.modQuiesce b f).txNotice = s.txNotice := rfl
@[simp] theorem State.modQuiesce_committed (b : Bed) (f : Quiesce → Quiesce) :
    (s.modQuiesce b f).committed = s.committed := rfl
@[simp] theorem State.modQuiesce_staged (b : Bed) (f : Quiesce → Quiesce) : (s.modQuiesce b f).staged = s.staged := rfl
@[simp] theorem State.modQuiesce_slots (b : Bed) (f : Quiesce → Quiesce) : (s.modQuiesce b f).slots = s.slots := rfl
@[simp] theorem State.modQuiesce_piles (b : Bed) (f : Quiesce → Quiesce) : (s.modQuiesce b f).piles = s.piles := rfl
@[simp] theorem State.modQuiesce_stations (b : Bed) (f : Quiesce → Quiesce) :
    (s.modQuiesce b f).stations = s.stations := rfl
@[simp] theorem State.modQuiesce_infeed (b : Bed) (f : Quiesce → Quiesce) : (s.modQuiesce b f).infeed = s.infeed := rfl
@[simp] theorem State.modQuiesce_hooks (b : Bed) (f : Quiesce → Quiesce) : (s.modQuiesce b f).hooks = s.hooks := rfl
@[simp] theorem State.modQuiesce_active (b : Bed) (f : Quiesce → Quiesce) : (s.modQuiesce b f).active = s.active := rfl
@[simp] theorem State.modQuiesce_claims (b : Bed) (f : Quiesce → Quiesce) : (s.modQuiesce b f).claims = s.claims := rfl
@[simp] theorem State.modQuiesce_arcs (b : Bed) (f : Quiesce → Quiesce) : (s.modQuiesce b f).arcs = s.arcs := rfl
@[simp] theorem State.modQuiesce_consumables (b : Bed) (f : Quiesce → Quiesce) :
    (s.modQuiesce b f).consumables = s.consumables := rfl
@[simp] theorem State.modQuiesce_beacon (b : Bed) (f : Quiesce → Quiesce) : (s.modQuiesce b f).beacon = s.beacon := rfl
@[simp] theorem State.modQuiesce_quiesce (b : Bed) (f : Quiesce → Quiesce) :
    (s.modQuiesce b f).quiesce = s.quiesce.set b (f (s.quiesce.get b)) := rfl
@[simp] theorem State.modQuiesce_permit (b : Bed) (f : Quiesce → Quiesce) : (s.modQuiesce b f).permit = s.permit := rfl
@[simp] theorem State.modQuiesce_runway (b : Bed) (f : Quiesce → Quiesce) : (s.modQuiesce b f).runway = s.runway := rfl
@[simp] theorem State.modQuiesce_motion (b : Bed) (f : Quiesce → Quiesce) : (s.modQuiesce b f).motion = s.motion := rfl
@[simp] theorem State.modQuiesce_shared (b : Bed) (f : Quiesce → Quiesce) : (s.modQuiesce b f).shared = s.shared := rfl
@[simp] theorem State.modQuiesce_pending (b : Bed) (f : Quiesce → Quiesce) :
    (s.modQuiesce b f).pending = s.pending := rfl

/-! ### modRunway -/

@[simp] theorem State.modRunway_part (c : Crane) (f : Runway → Runway) : (s.modRunway c f).part = s.part := rfl
@[simp] theorem State.modRunway_validMark (c : Crane) (f : Runway → Runway) :
    (s.modRunway c f).validMark = s.validMark := rfl
@[simp] theorem State.modRunway_restartOwed (c : Crane) (f : Runway → Runway) :
    (s.modRunway c f).restartOwed = s.restartOwed := rfl
@[simp] theorem State.modRunway_hallTime (c : Crane) (f : Runway → Runway) :
    (s.modRunway c f).hallTime = s.hallTime := rfl
@[simp] theorem State.modRunway_nextTick (c : Crane) (f : Runway → Runway) :
    (s.modRunway c f).nextTick = s.nextTick := rfl
@[simp] theorem State.modRunway_ticked (c : Crane) (f : Runway → Runway) : (s.modRunway c f).ticked = s.ticked := rfl
@[simp] theorem State.modRunway_eStop (c : Crane) (f : Runway → Runway) : (s.modRunway c f).eStop = s.eStop := rfl
@[simp] theorem State.modRunway_links (c : Crane) (f : Runway → Runway) : (s.modRunway c f).links = s.links := rfl
@[simp] theorem State.modRunway_mask (c : Crane) (f : Runway → Runway) : (s.modRunway c f).mask = s.mask := rfl
@[simp] theorem State.modRunway_txAnswer (c : Crane) (f : Runway → Runway) :
    (s.modRunway c f).txAnswer = s.txAnswer := rfl
@[simp] theorem State.modRunway_txNotice (c : Crane) (f : Runway → Runway) :
    (s.modRunway c f).txNotice = s.txNotice := rfl
@[simp] theorem State.modRunway_committed (c : Crane) (f : Runway → Runway) :
    (s.modRunway c f).committed = s.committed := rfl
@[simp] theorem State.modRunway_staged (c : Crane) (f : Runway → Runway) : (s.modRunway c f).staged = s.staged := rfl
@[simp] theorem State.modRunway_slots (c : Crane) (f : Runway → Runway) : (s.modRunway c f).slots = s.slots := rfl
@[simp] theorem State.modRunway_piles (c : Crane) (f : Runway → Runway) : (s.modRunway c f).piles = s.piles := rfl
@[simp] theorem State.modRunway_stations (c : Crane) (f : Runway → Runway) :
    (s.modRunway c f).stations = s.stations := rfl
@[simp] theorem State.modRunway_infeed (c : Crane) (f : Runway → Runway) : (s.modRunway c f).infeed = s.infeed := rfl
@[simp] theorem State.modRunway_hooks (c : Crane) (f : Runway → Runway) : (s.modRunway c f).hooks = s.hooks := rfl
@[simp] theorem State.modRunway_active (c : Crane) (f : Runway → Runway) : (s.modRunway c f).active = s.active := rfl
@[simp] theorem State.modRunway_claims (c : Crane) (f : Runway → Runway) : (s.modRunway c f).claims = s.claims := rfl
@[simp] theorem State.modRunway_arcs (c : Crane) (f : Runway → Runway) : (s.modRunway c f).arcs = s.arcs := rfl
@[simp] theorem State.modRunway_consumables (c : Crane) (f : Runway → Runway) :
    (s.modRunway c f).consumables = s.consumables := rfl
@[simp] theorem State.modRunway_beacon (c : Crane) (f : Runway → Runway) : (s.modRunway c f).beacon = s.beacon := rfl
@[simp] theorem State.modRunway_quiesce (c : Crane) (f : Runway → Runway) : (s.modRunway c f).quiesce = s.quiesce := rfl
@[simp] theorem State.modRunway_permit (c : Crane) (f : Runway → Runway) : (s.modRunway c f).permit = s.permit := rfl
@[simp] theorem State.modRunway_runway (c : Crane) (f : Runway → Runway) :
    (s.modRunway c f).runway = s.runway.set c (f (s.runway.get c)) := rfl
@[simp] theorem State.modRunway_motion (c : Crane) (f : Runway → Runway) : (s.modRunway c f).motion = s.motion := rfl
@[simp] theorem State.modRunway_shared (c : Crane) (f : Runway → Runway) : (s.modRunway c f).shared = s.shared := rfl
@[simp] theorem State.modRunway_pending (c : Crane) (f : Runway → Runway) : (s.modRunway c f).pending = s.pending := rfl

/-! ### modLink -/

@[simp] theorem State.modLink_part (l : Link) (f : LinkState → LinkState) : (s.modLink l f).part = s.part := rfl
@[simp] theorem State.modLink_validMark (l : Link) (f : LinkState → LinkState) :
    (s.modLink l f).validMark = s.validMark := rfl
@[simp] theorem State.modLink_restartOwed (l : Link) (f : LinkState → LinkState) :
    (s.modLink l f).restartOwed = s.restartOwed := rfl
@[simp] theorem State.modLink_hallTime (l : Link) (f : LinkState → LinkState) :
    (s.modLink l f).hallTime = s.hallTime := rfl
@[simp] theorem State.modLink_nextTick (l : Link) (f : LinkState → LinkState) :
    (s.modLink l f).nextTick = s.nextTick := rfl
@[simp] theorem State.modLink_ticked (l : Link) (f : LinkState → LinkState) : (s.modLink l f).ticked = s.ticked := rfl
@[simp] theorem State.modLink_eStop (l : Link) (f : LinkState → LinkState) : (s.modLink l f).eStop = s.eStop := rfl
@[simp] theorem State.modLink_links (l : Link) (f : LinkState → LinkState) :
    (s.modLink l f).links = s.links.set l (f (s.links.get l)) := rfl
@[simp] theorem State.modLink_mask (l : Link) (f : LinkState → LinkState) : (s.modLink l f).mask = s.mask := rfl
@[simp] theorem State.modLink_txAnswer (l : Link) (f : LinkState → LinkState) :
    (s.modLink l f).txAnswer = s.txAnswer := rfl
@[simp] theorem State.modLink_txNotice (l : Link) (f : LinkState → LinkState) :
    (s.modLink l f).txNotice = s.txNotice := rfl
@[simp] theorem State.modLink_committed (l : Link) (f : LinkState → LinkState) :
    (s.modLink l f).committed = s.committed := rfl
@[simp] theorem State.modLink_staged (l : Link) (f : LinkState → LinkState) : (s.modLink l f).staged = s.staged := rfl
@[simp] theorem State.modLink_slots (l : Link) (f : LinkState → LinkState) : (s.modLink l f).slots = s.slots := rfl
@[simp] theorem State.modLink_piles (l : Link) (f : LinkState → LinkState) : (s.modLink l f).piles = s.piles := rfl
@[simp] theorem State.modLink_stations (l : Link) (f : LinkState → LinkState) :
    (s.modLink l f).stations = s.stations := rfl
@[simp] theorem State.modLink_infeed (l : Link) (f : LinkState → LinkState) : (s.modLink l f).infeed = s.infeed := rfl
@[simp] theorem State.modLink_hooks (l : Link) (f : LinkState → LinkState) : (s.modLink l f).hooks = s.hooks := rfl
@[simp] theorem State.modLink_active (l : Link) (f : LinkState → LinkState) : (s.modLink l f).active = s.active := rfl
@[simp] theorem State.modLink_claims (l : Link) (f : LinkState → LinkState) : (s.modLink l f).claims = s.claims := rfl
@[simp] theorem State.modLink_arcs (l : Link) (f : LinkState → LinkState) : (s.modLink l f).arcs = s.arcs := rfl
@[simp] theorem State.modLink_consumables (l : Link) (f : LinkState → LinkState) :
    (s.modLink l f).consumables = s.consumables := rfl
@[simp] theorem State.modLink_beacon (l : Link) (f : LinkState → LinkState) : (s.modLink l f).beacon = s.beacon := rfl
@[simp] theorem State.modLink_quiesce (l : Link) (f : LinkState → LinkState) :
    (s.modLink l f).quiesce = s.quiesce := rfl
@[simp] theorem State.modLink_permit (l : Link) (f : LinkState → LinkState) : (s.modLink l f).permit = s.permit := rfl
@[simp] theorem State.modLink_runway (l : Link) (f : LinkState → LinkState) : (s.modLink l f).runway = s.runway := rfl
@[simp] theorem State.modLink_motion (l : Link) (f : LinkState → LinkState) : (s.modLink l f).motion = s.motion := rfl
@[simp] theorem State.modLink_shared (l : Link) (f : LinkState → LinkState) : (s.modLink l f).shared = s.shared := rfl
@[simp] theorem State.modLink_pending (l : Link) (f : LinkState → LinkState) :
    (s.modLink l f).pending = s.pending := rfl

/-! ### modArc -/

@[simp] theorem State.modArc_part (b : Bed) (f : ArcCapture → ArcCapture) : (s.modArc b f).part = s.part := rfl
@[simp] theorem State.modArc_validMark (b : Bed) (f : ArcCapture → ArcCapture) :
    (s.modArc b f).validMark = s.validMark := rfl
@[simp] theorem State.modArc_restartOwed (b : Bed) (f : ArcCapture → ArcCapture) :
    (s.modArc b f).restartOwed = s.restartOwed := rfl
@[simp] theorem State.modArc_hallTime (b : Bed) (f : ArcCapture → ArcCapture) :
    (s.modArc b f).hallTime = s.hallTime := rfl
@[simp] theorem State.modArc_nextTick (b : Bed) (f : ArcCapture → ArcCapture) :
    (s.modArc b f).nextTick = s.nextTick := rfl
@[simp] theorem State.modArc_ticked (b : Bed) (f : ArcCapture → ArcCapture) : (s.modArc b f).ticked = s.ticked := rfl
@[simp] theorem State.modArc_eStop (b : Bed) (f : ArcCapture → ArcCapture) : (s.modArc b f).eStop = s.eStop := rfl
@[simp] theorem State.modArc_links (b : Bed) (f : ArcCapture → ArcCapture) : (s.modArc b f).links = s.links := rfl
@[simp] theorem State.modArc_mask (b : Bed) (f : ArcCapture → ArcCapture) : (s.modArc b f).mask = s.mask := rfl
@[simp] theorem State.modArc_txAnswer (b : Bed) (f : ArcCapture → ArcCapture) :
    (s.modArc b f).txAnswer = s.txAnswer := rfl
@[simp] theorem State.modArc_txNotice (b : Bed) (f : ArcCapture → ArcCapture) :
    (s.modArc b f).txNotice = s.txNotice := rfl
@[simp] theorem State.modArc_committed (b : Bed) (f : ArcCapture → ArcCapture) :
    (s.modArc b f).committed = s.committed := rfl
@[simp] theorem State.modArc_staged (b : Bed) (f : ArcCapture → ArcCapture) : (s.modArc b f).staged = s.staged := rfl
@[simp] theorem State.modArc_slots (b : Bed) (f : ArcCapture → ArcCapture) : (s.modArc b f).slots = s.slots := rfl
@[simp] theorem State.modArc_piles (b : Bed) (f : ArcCapture → ArcCapture) : (s.modArc b f).piles = s.piles := rfl
@[simp] theorem State.modArc_stations (b : Bed) (f : ArcCapture → ArcCapture) :
    (s.modArc b f).stations = s.stations := rfl
@[simp] theorem State.modArc_infeed (b : Bed) (f : ArcCapture → ArcCapture) : (s.modArc b f).infeed = s.infeed := rfl
@[simp] theorem State.modArc_hooks (b : Bed) (f : ArcCapture → ArcCapture) : (s.modArc b f).hooks = s.hooks := rfl
@[simp] theorem State.modArc_active (b : Bed) (f : ArcCapture → ArcCapture) : (s.modArc b f).active = s.active := rfl
@[simp] theorem State.modArc_claims (b : Bed) (f : ArcCapture → ArcCapture) : (s.modArc b f).claims = s.claims := rfl
@[simp] theorem State.modArc_arcs (b : Bed) (f : ArcCapture → ArcCapture) :
    (s.modArc b f).arcs = s.arcs.set b (f (s.arcs.get b)) := rfl
@[simp] theorem State.modArc_consumables (b : Bed) (f : ArcCapture → ArcCapture) :
    (s.modArc b f).consumables = s.consumables := rfl
@[simp] theorem State.modArc_beacon (b : Bed) (f : ArcCapture → ArcCapture) : (s.modArc b f).beacon = s.beacon := rfl
@[simp] theorem State.modArc_quiesce (b : Bed) (f : ArcCapture → ArcCapture) : (s.modArc b f).quiesce = s.quiesce := rfl
@[simp] theorem State.modArc_permit (b : Bed) (f : ArcCapture → ArcCapture) : (s.modArc b f).permit = s.permit := rfl
@[simp] theorem State.modArc_runway (b : Bed) (f : ArcCapture → ArcCapture) : (s.modArc b f).runway = s.runway := rfl
@[simp] theorem State.modArc_motion (b : Bed) (f : ArcCapture → ArcCapture) : (s.modArc b f).motion = s.motion := rfl
@[simp] theorem State.modArc_shared (b : Bed) (f : ArcCapture → ArcCapture) : (s.modArc b f).shared = s.shared := rfl
@[simp] theorem State.modArc_pending (b : Bed) (f : ArcCapture → ArcCapture) : (s.modArc b f).pending = s.pending := rfl

/-! ### setClaim -/

@[simp] theorem State.setClaim_part (b : Bed) (n : Option Nest) : (s.setClaim b n).part = s.part := rfl
@[simp] theorem State.setClaim_validMark (b : Bed) (n : Option Nest) : (s.setClaim b n).validMark = s.validMark := rfl
@[simp] theorem State.setClaim_restartOwed (b : Bed) (n : Option Nest) :
    (s.setClaim b n).restartOwed = s.restartOwed := rfl
@[simp] theorem State.setClaim_hallTime (b : Bed) (n : Option Nest) : (s.setClaim b n).hallTime = s.hallTime := rfl
@[simp] theorem State.setClaim_nextTick (b : Bed) (n : Option Nest) : (s.setClaim b n).nextTick = s.nextTick := rfl
@[simp] theorem State.setClaim_ticked (b : Bed) (n : Option Nest) : (s.setClaim b n).ticked = s.ticked := rfl
@[simp] theorem State.setClaim_eStop (b : Bed) (n : Option Nest) : (s.setClaim b n).eStop = s.eStop := rfl
@[simp] theorem State.setClaim_links (b : Bed) (n : Option Nest) : (s.setClaim b n).links = s.links := rfl
@[simp] theorem State.setClaim_mask (b : Bed) (n : Option Nest) : (s.setClaim b n).mask = s.mask := rfl
@[simp] theorem State.setClaim_txAnswer (b : Bed) (n : Option Nest) : (s.setClaim b n).txAnswer = s.txAnswer := rfl
@[simp] theorem State.setClaim_txNotice (b : Bed) (n : Option Nest) : (s.setClaim b n).txNotice = s.txNotice := rfl
@[simp] theorem State.setClaim_committed (b : Bed) (n : Option Nest) : (s.setClaim b n).committed = s.committed := rfl
@[simp] theorem State.setClaim_staged (b : Bed) (n : Option Nest) : (s.setClaim b n).staged = s.staged := rfl
@[simp] theorem State.setClaim_slots (b : Bed) (n : Option Nest) : (s.setClaim b n).slots = s.slots := rfl
@[simp] theorem State.setClaim_piles (b : Bed) (n : Option Nest) : (s.setClaim b n).piles = s.piles := rfl
@[simp] theorem State.setClaim_stations (b : Bed) (n : Option Nest) : (s.setClaim b n).stations = s.stations := rfl
@[simp] theorem State.setClaim_infeed (b : Bed) (n : Option Nest) : (s.setClaim b n).infeed = s.infeed := rfl
@[simp] theorem State.setClaim_hooks (b : Bed) (n : Option Nest) : (s.setClaim b n).hooks = s.hooks := rfl
@[simp] theorem State.setClaim_active (b : Bed) (n : Option Nest) : (s.setClaim b n).active = s.active := rfl
@[simp] theorem State.setClaim_claims (b : Bed) (n : Option Nest) : (s.setClaim b n).claims = s.claims.set b n := rfl
@[simp] theorem State.setClaim_arcs (b : Bed) (n : Option Nest) : (s.setClaim b n).arcs = s.arcs := rfl
@[simp] theorem State.setClaim_consumables (b : Bed) (n : Option Nest) :
    (s.setClaim b n).consumables = s.consumables := rfl
@[simp] theorem State.setClaim_beacon (b : Bed) (n : Option Nest) : (s.setClaim b n).beacon = s.beacon := rfl
@[simp] theorem State.setClaim_quiesce (b : Bed) (n : Option Nest) : (s.setClaim b n).quiesce = s.quiesce := rfl
@[simp] theorem State.setClaim_permit (b : Bed) (n : Option Nest) : (s.setClaim b n).permit = s.permit := rfl
@[simp] theorem State.setClaim_runway (b : Bed) (n : Option Nest) : (s.setClaim b n).runway = s.runway := rfl
@[simp] theorem State.setClaim_motion (b : Bed) (n : Option Nest) : (s.setClaim b n).motion = s.motion := rfl
@[simp] theorem State.setClaim_shared (b : Bed) (n : Option Nest) : (s.setClaim b n).shared = s.shared := rfl
@[simp] theorem State.setClaim_pending (b : Bed) (n : Option Nest) : (s.setClaim b n).pending = s.pending := rfl

/-! ### setPermit -/

@[simp] theorem State.setPermit_part (b : Bed) (v : Bool) : (s.setPermit b v).part = s.part := rfl
@[simp] theorem State.setPermit_validMark (b : Bed) (v : Bool) : (s.setPermit b v).validMark = s.validMark := rfl
@[simp] theorem State.setPermit_restartOwed (b : Bed) (v : Bool) : (s.setPermit b v).restartOwed = s.restartOwed := rfl
@[simp] theorem State.setPermit_hallTime (b : Bed) (v : Bool) : (s.setPermit b v).hallTime = s.hallTime := rfl
@[simp] theorem State.setPermit_nextTick (b : Bed) (v : Bool) : (s.setPermit b v).nextTick = s.nextTick := rfl
@[simp] theorem State.setPermit_ticked (b : Bed) (v : Bool) : (s.setPermit b v).ticked = s.ticked := rfl
@[simp] theorem State.setPermit_eStop (b : Bed) (v : Bool) : (s.setPermit b v).eStop = s.eStop := rfl
@[simp] theorem State.setPermit_links (b : Bed) (v : Bool) : (s.setPermit b v).links = s.links := rfl
@[simp] theorem State.setPermit_mask (b : Bed) (v : Bool) : (s.setPermit b v).mask = s.mask := rfl
@[simp] theorem State.setPermit_txAnswer (b : Bed) (v : Bool) : (s.setPermit b v).txAnswer = s.txAnswer := rfl
@[simp] theorem State.setPermit_txNotice (b : Bed) (v : Bool) : (s.setPermit b v).txNotice = s.txNotice := rfl
@[simp] theorem State.setPermit_committed (b : Bed) (v : Bool) : (s.setPermit b v).committed = s.committed := rfl
@[simp] theorem State.setPermit_staged (b : Bed) (v : Bool) : (s.setPermit b v).staged = s.staged := rfl
@[simp] theorem State.setPermit_slots (b : Bed) (v : Bool) : (s.setPermit b v).slots = s.slots := rfl
@[simp] theorem State.setPermit_piles (b : Bed) (v : Bool) : (s.setPermit b v).piles = s.piles := rfl
@[simp] theorem State.setPermit_stations (b : Bed) (v : Bool) : (s.setPermit b v).stations = s.stations := rfl
@[simp] theorem State.setPermit_infeed (b : Bed) (v : Bool) : (s.setPermit b v).infeed = s.infeed := rfl
@[simp] theorem State.setPermit_hooks (b : Bed) (v : Bool) : (s.setPermit b v).hooks = s.hooks := rfl
@[simp] theorem State.setPermit_active (b : Bed) (v : Bool) : (s.setPermit b v).active = s.active := rfl
@[simp] theorem State.setPermit_claims (b : Bed) (v : Bool) : (s.setPermit b v).claims = s.claims := rfl
@[simp] theorem State.setPermit_arcs (b : Bed) (v : Bool) : (s.setPermit b v).arcs = s.arcs := rfl
@[simp] theorem State.setPermit_consumables (b : Bed) (v : Bool) : (s.setPermit b v).consumables = s.consumables := rfl
@[simp] theorem State.setPermit_beacon (b : Bed) (v : Bool) : (s.setPermit b v).beacon = s.beacon := rfl
@[simp] theorem State.setPermit_quiesce (b : Bed) (v : Bool) : (s.setPermit b v).quiesce = s.quiesce := rfl
@[simp] theorem State.setPermit_permit (b : Bed) (v : Bool) : (s.setPermit b v).permit = s.permit.set b v := rfl
@[simp] theorem State.setPermit_runway (b : Bed) (v : Bool) : (s.setPermit b v).runway = s.runway := rfl
@[simp] theorem State.setPermit_motion (b : Bed) (v : Bool) : (s.setPermit b v).motion = s.motion := rfl
@[simp] theorem State.setPermit_shared (b : Bed) (v : Bool) : (s.setPermit b v).shared = s.shared := rfl
@[simp] theorem State.setPermit_pending (b : Bed) (v : Bool) : (s.setPermit b v).pending = s.pending := rfl

/-! ### evalMotion -/

@[simp] theorem State.evalMotion_part (c : Crane) : (s.evalMotion c).part = s.part := rfl
@[simp] theorem State.evalMotion_validMark (c : Crane) : (s.evalMotion c).validMark = s.validMark := rfl
@[simp] theorem State.evalMotion_restartOwed (c : Crane) : (s.evalMotion c).restartOwed = s.restartOwed := rfl
@[simp] theorem State.evalMotion_hallTime (c : Crane) : (s.evalMotion c).hallTime = s.hallTime := rfl
@[simp] theorem State.evalMotion_nextTick (c : Crane) : (s.evalMotion c).nextTick = s.nextTick := rfl
@[simp] theorem State.evalMotion_ticked (c : Crane) : (s.evalMotion c).ticked = s.ticked := rfl
@[simp] theorem State.evalMotion_eStop (c : Crane) : (s.evalMotion c).eStop = s.eStop := rfl
@[simp] theorem State.evalMotion_links (c : Crane) : (s.evalMotion c).links = s.links := rfl
@[simp] theorem State.evalMotion_mask (c : Crane) : (s.evalMotion c).mask = s.mask := rfl
@[simp] theorem State.evalMotion_txAnswer (c : Crane) : (s.evalMotion c).txAnswer = s.txAnswer := rfl
@[simp] theorem State.evalMotion_txNotice (c : Crane) : (s.evalMotion c).txNotice = s.txNotice := rfl
@[simp] theorem State.evalMotion_committed (c : Crane) : (s.evalMotion c).committed = s.committed := rfl
@[simp] theorem State.evalMotion_staged (c : Crane) : (s.evalMotion c).staged = s.staged := rfl
@[simp] theorem State.evalMotion_slots (c : Crane) : (s.evalMotion c).slots = s.slots := rfl
@[simp] theorem State.evalMotion_piles (c : Crane) : (s.evalMotion c).piles = s.piles := rfl
@[simp] theorem State.evalMotion_stations (c : Crane) : (s.evalMotion c).stations = s.stations := rfl
@[simp] theorem State.evalMotion_infeed (c : Crane) : (s.evalMotion c).infeed = s.infeed := rfl
@[simp] theorem State.evalMotion_hooks (c : Crane) : (s.evalMotion c).hooks = s.hooks := rfl
@[simp] theorem State.evalMotion_active (c : Crane) : (s.evalMotion c).active = s.active := rfl
@[simp] theorem State.evalMotion_claims (c : Crane) : (s.evalMotion c).claims = s.claims := rfl
@[simp] theorem State.evalMotion_arcs (c : Crane) : (s.evalMotion c).arcs = s.arcs := rfl
@[simp] theorem State.evalMotion_consumables (c : Crane) : (s.evalMotion c).consumables = s.consumables := rfl
@[simp] theorem State.evalMotion_beacon (c : Crane) : (s.evalMotion c).beacon = s.beacon := rfl
@[simp] theorem State.evalMotion_quiesce (c : Crane) : (s.evalMotion c).quiesce = s.quiesce := rfl
@[simp] theorem State.evalMotion_permit (c : Crane) : (s.evalMotion c).permit = s.permit := rfl
@[simp] theorem State.evalMotion_runway (c : Crane) : (s.evalMotion c).runway = s.runway := rfl
@[simp] theorem State.evalMotion_motion (c : Crane) : (s.evalMotion c).motion = s.motion.set c (s.motionDue c) := rfl
@[simp] theorem State.evalMotion_shared (c : Crane) : (s.evalMotion c).shared = s.shared := rfl
@[simp] theorem State.evalMotion_pending (c : Crane) : (s.evalMotion c).pending = s.pending := rfl

/-! ### evalBeacon -/

@[simp] theorem State.evalBeacon_part (b : Bed) : (s.evalBeacon b).part = s.part := rfl
@[simp] theorem State.evalBeacon_validMark (b : Bed) : (s.evalBeacon b).validMark = s.validMark := rfl
@[simp] theorem State.evalBeacon_restartOwed (b : Bed) : (s.evalBeacon b).restartOwed = s.restartOwed := rfl
@[simp] theorem State.evalBeacon_hallTime (b : Bed) : (s.evalBeacon b).hallTime = s.hallTime := rfl
@[simp] theorem State.evalBeacon_nextTick (b : Bed) : (s.evalBeacon b).nextTick = s.nextTick := rfl
@[simp] theorem State.evalBeacon_ticked (b : Bed) : (s.evalBeacon b).ticked = s.ticked := rfl
@[simp] theorem State.evalBeacon_eStop (b : Bed) : (s.evalBeacon b).eStop = s.eStop := rfl
@[simp] theorem State.evalBeacon_links (b : Bed) : (s.evalBeacon b).links = s.links := rfl
@[simp] theorem State.evalBeacon_mask (b : Bed) : (s.evalBeacon b).mask = s.mask := rfl
@[simp] theorem State.evalBeacon_txAnswer (b : Bed) : (s.evalBeacon b).txAnswer = s.txAnswer := rfl
@[simp] theorem State.evalBeacon_txNotice (b : Bed) : (s.evalBeacon b).txNotice = s.txNotice := rfl
@[simp] theorem State.evalBeacon_committed (b : Bed) : (s.evalBeacon b).committed = s.committed := rfl
@[simp] theorem State.evalBeacon_staged (b : Bed) : (s.evalBeacon b).staged = s.staged := rfl
@[simp] theorem State.evalBeacon_slots (b : Bed) : (s.evalBeacon b).slots = s.slots := rfl
@[simp] theorem State.evalBeacon_piles (b : Bed) : (s.evalBeacon b).piles = s.piles := rfl
@[simp] theorem State.evalBeacon_stations (b : Bed) : (s.evalBeacon b).stations = s.stations := rfl
@[simp] theorem State.evalBeacon_infeed (b : Bed) : (s.evalBeacon b).infeed = s.infeed := rfl
@[simp] theorem State.evalBeacon_hooks (b : Bed) : (s.evalBeacon b).hooks = s.hooks := rfl
@[simp] theorem State.evalBeacon_active (b : Bed) : (s.evalBeacon b).active = s.active := rfl
@[simp] theorem State.evalBeacon_claims (b : Bed) : (s.evalBeacon b).claims = s.claims := rfl
@[simp] theorem State.evalBeacon_arcs (b : Bed) : (s.evalBeacon b).arcs = s.arcs := rfl
@[simp] theorem State.evalBeacon_consumables (b : Bed) : (s.evalBeacon b).consumables = s.consumables := rfl
@[simp] theorem State.evalBeacon_beacon (b : Bed) : (s.evalBeacon b).beacon = s.beacon.set b (s.beaconDue b) := rfl
@[simp] theorem State.evalBeacon_quiesce (b : Bed) : (s.evalBeacon b).quiesce = s.quiesce := rfl
@[simp] theorem State.evalBeacon_permit (b : Bed) : (s.evalBeacon b).permit = s.permit := rfl
@[simp] theorem State.evalBeacon_runway (b : Bed) : (s.evalBeacon b).runway = s.runway := rfl
@[simp] theorem State.evalBeacon_motion (b : Bed) : (s.evalBeacon b).motion = s.motion := rfl
@[simp] theorem State.evalBeacon_shared (b : Bed) : (s.evalBeacon b).shared = s.shared := rfl
@[simp] theorem State.evalBeacon_pending (b : Bed) : (s.evalBeacon b).pending = s.pending := rfl

/-! ### unlist -/

@[simp] theorem State.unlist_part (h : Handle) : (s.unlist h).part = s.part := rfl
@[simp] theorem State.unlist_validMark (h : Handle) : (s.unlist h).validMark = s.validMark := rfl
@[simp] theorem State.unlist_restartOwed (h : Handle) : (s.unlist h).restartOwed = s.restartOwed := rfl
@[simp] theorem State.unlist_hallTime (h : Handle) : (s.unlist h).hallTime = s.hallTime := rfl
@[simp] theorem State.unlist_nextTick (h : Handle) : (s.unlist h).nextTick = s.nextTick := rfl
@[simp] theorem State.unlist_ticked (h : Handle) : (s.unlist h).ticked = s.ticked := rfl
@[simp] theorem State.unlist_eStop (h : Handle) : (s.unlist h).eStop = s.eStop := rfl
@[simp] theorem State.unlist_links (h : Handle) : (s.unlist h).links = s.links := rfl
@[simp] theorem State.unlist_mask (h : Handle) : (s.unlist h).mask = s.mask := rfl
@[simp] theorem State.unlist_txAnswer (h : Handle) : (s.unlist h).txAnswer = s.txAnswer := rfl
@[simp] theorem State.unlist_txNotice (h : Handle) : (s.unlist h).txNotice = s.txNotice := rfl
@[simp] theorem State.unlist_committed (h : Handle) : (s.unlist h).committed = s.committed := rfl
@[simp] theorem State.unlist_staged (h : Handle) : (s.unlist h).staged = s.staged := rfl
@[simp] theorem State.unlist_slots (h : Handle) : (s.unlist h).slots = s.slots := rfl
@[simp] theorem State.unlist_active (h : Handle) : (s.unlist h).active = s.active := rfl
@[simp] theorem State.unlist_claims (h : Handle) : (s.unlist h).claims = s.claims := rfl
@[simp] theorem State.unlist_arcs (h : Handle) : (s.unlist h).arcs = s.arcs := rfl
@[simp] theorem State.unlist_consumables (h : Handle) : (s.unlist h).consumables = s.consumables := rfl
@[simp] theorem State.unlist_beacon (h : Handle) : (s.unlist h).beacon = s.beacon := rfl
@[simp] theorem State.unlist_quiesce (h : Handle) : (s.unlist h).quiesce = s.quiesce := rfl
@[simp] theorem State.unlist_permit (h : Handle) : (s.unlist h).permit = s.permit := rfl
@[simp] theorem State.unlist_runway (h : Handle) : (s.unlist h).runway = s.runway := rfl
@[simp] theorem State.unlist_motion (h : Handle) : (s.unlist h).motion = s.motion := rfl
@[simp] theorem State.unlist_shared (h : Handle) : (s.unlist h).shared = s.shared := rfl
@[simp] theorem State.unlist_pending (h : Handle) : (s.unlist h).pending = s.pending := rfl

end Sys2Proof.Machine
end

