-- ==== Sys2Proof/Laws/Tables.lean ====
section
/-! SUPPORT. The tables per bed, crane, station, link and class: what is read after a write. -/

namespace Sys2Proof

@[simp] theorem PerBed.get_set_same {α : Type} (p : PerBed α) (b : Bed) (v : α) : (p.set b v).get b = v := by
  cases b <;> rfl

theorem PerBed.get_set_of_ne {α : Type} (p : PerBed α) {a b : Bed} (v : α) (h : a ≠ b) :
    (p.set b v).get a = p.get a := by
  cases a <;> cases b <;> first | rfl | exact absurd rfl h

theorem PerBed.get_set {α : Type} (p : PerBed α) (a b : Bed) (v : α) :
    (p.set b v).get a = if a = b then v else p.get a := by
  cases a <;> cases b <;> rfl

@[simp] theorem PerBed.set_get {α : Type} (p : PerBed α) (b : Bed) : p.set b (p.get b) = p := by
  cases b <;> rfl

@[simp] theorem PerCrane.get_set_same {α : Type} (p : PerCrane α) (c : Crane) (v : α) : (p.set c v).get c = v := by
  cases c <;> rfl

theorem PerCrane.get_set {α : Type} (p : PerCrane α) (a c : Crane) (v : α) :
    (p.set c v).get a = if a = c then v else p.get a := by
  cases a <;> cases c <;> rfl

@[simp] theorem PerCrane.set_get {α : Type} (p : PerCrane α) (c : Crane) : p.set c (p.get c) = p := by
  cases c <;> rfl

@[simp] theorem PerStation.get_set_same {α : Type} (p : PerStation α) (st : Station) (v : α) :
    (p.set st v).get st = v := by
  cases st <;> rfl

theorem PerStation.get_set {α : Type} (p : PerStation α) (x st : Station) (v : α) :
    (p.set st v).get x = if x = st then v else p.get x := by
  cases x <;> cases st <;> rfl

@[simp] theorem PerClass.get_set_same {α : Type} (p : PerClass α) (k : TimeoutClass) (v : α) : (p.set k v).get k = v := by
  cases k <;> rfl

theorem PerClass.get_set {α : Type} (p : PerClass α) (a k : TimeoutClass) (v : α) :
    (p.set k v).get a = if a = k then v else p.get a := by
  cases a <;> cases k <;> rfl

@[simp] theorem PerLink.get_set_same {α : Type} (p : PerLink α) (l : Link) (v : α) : (p.set l v).get l = v := by
  rcases l with _ | b | c
  · rfl
  · cases b <;> rfl
  · cases c <;> rfl

theorem PerLink.get_set {α : Type} (p : PerLink α) (l m : Link) (v : α) :
    (p.set l v).get m = if m = l then v else p.get m := by
  rcases l with _ | b | c <;> rcases m with _ | b' | c' <;>
    first
      | rfl
      | (cases b <;> first | rfl | (cases b' <;> rfl))
      | (cases c <;> first | rfl | (cases c' <;> rfl))

@[simp] theorem PerLink.set_get {α : Type} (p : PerLink α) (l : Link) : p.set l (p.get l) = p := by
  rcases l with _ | b | c
  · rfl
  · cases b <;> rfl
  · cases c <;> rfl

end Sys2Proof
end

