-- ==== Sys2Proof/Laws/Ops.lean ====
section
/-! SUPPORT. What each conditional operation leaves unchanged, as one equation each (the result, with the fields the operation
may write put back, is the state it started from), what the searches over the order table find, and the induction principles
for agendas and for loops over orders. -/

namespace Sys2Proof.Machine

open Sys2Proof

/-! ### Frames -/

theorem State.notify_frame (s : State) (l : Link) (n : Notice) : { s.notify l n with links := s.links } = s := by
  unfold State.notify; split <;> rfl

theorem State.notify_only (s : State) (l : Link) (n : Notice) : ∃ L, s.notify l n = { s with links := L } := by
  unfold State.notify; split
  · exact ⟨_, rfl⟩
  · exact ⟨s.links, rfl⟩

/-- A notice only joins, or is counted as dropped on, the queue of its link. -/
theorem State.notify_links (s : State) (l : Link) (n : Notice) :
    (s.notify l n).links = if s.noticeWanted l n then s.links.set l ((s.links.get l).enqueue n) else s.links := by
  unfold State.notify; split <;> rfl

theorem State.setEntry_frame (s : State) (e : Nat) (v : Option Entry) :
    { s.setEntry e v with shared := s.shared } = s := by
  unfold State.setEntry; split <;> rfl

theorem State.setEntry_only (s : State) (e : Nat) (v : Option Entry) : ∃ E, s.setEntry e v = { s with shared := E } := by
  unfold State.setEntry; split
  · exact ⟨_, rfl⟩
  · exact ⟨s.shared, rfl⟩

theorem State.modOrder_frame (s : State) (e : Nat) (f : Order → Order) :
    { s.modOrder e f with shared := s.shared } = s := by
  unfold State.modOrder; split
  · exact State.setEntry_frame ..
  · rfl

theorem State.modRecord_frame (s : State) (h : Handle) (f : Record → Record) :
    { s.modRecord h f with slots := s.slots } = s := by
  unfold State.modRecord; split <;> rfl

theorem State.setCustody_frame (s : State) (h : Handle) (c : Custody) : { s.setCustody h c with slots := s.slots } = s :=
  State.modRecord_frame ..

theorem State.setListAt_frame (s : State) (p : Place) (hs : List Handle) :
    { s.setListAt p hs with
      piles := s.piles, stations := s.stations, infeed := s.infeed, hooks := s.hooks } = s := by
  cases p <;> rfl

theorem State.freeRecord_frame (s : State) (h : Handle) :
    { s.freeRecord h with
      slots := s.slots, piles := s.piles, stations := s.stations, infeed := s.infeed, hooks := s.hooks } = s := rfl

theorem State.evalPermit_only (s : State) (b : Bed) :
    ∃ P Q, s.evalPermit b = { s with permit := P, quiesce := Q } := by
  unfold State.evalPermit; split
  · exact ⟨_, s.quiesce, rfl⟩
  · exact ⟨_, _, rfl⟩

theorem State.evalPermit_frame (s : State) (b : Bed) :
    { s.evalPermit b with permit := s.permit, quiesce := s.quiesce } = s := by
  unfold State.evalPermit; split <;> rfl

theorem State.setQuiesce_frame (s : State) (b : Bed) (f : Quiesce → Quiesce) :
    { s.setQuiesce b f with permit := s.permit, quiesce := s.quiesce, beacon := s.beacon } = s := by
  obtain ⟨P, Q, h⟩ := State.evalPermit_only (s.modQuiesce b f) b
  unfold State.setQuiesce
  rw [h]
  rfl

theorem State.setSpan_frame (s : State) (c : Crane) (v : Option CraneSpan) :
    { s.setSpan c v with runway := s.runway, motion := s.motion } = s := rfl

theorem State.receive_frame (s : State) (l : Link) :
    { s.receive l with links := s.links, txAnswer := s.txAnswer, txNotice := s.txNotice } = s := rfl

theorem State.becomeHalted_frame (s : State) (e : Nat) (p : Phase) (k : CauseSet) :
    { s.becomeHalted e p k with shared := s.shared, links := s.links, motion := s.motion } = s := by
  unfold State.becomeHalted
  split
  · rename_i o _
    obtain ⟨E, hE⟩ := State.setEntry_only s e (some (.order
      { o with stage := .halted, remembered := p, causes := k, timer := none, redirect := none }))
    simp only [State.notifyCrane, hE]
    rfl
  · rfl

theorem State.setCauses_frame (s : State) (e : Nat) (k : CauseSet) :
    { s.setCauses e k with shared := s.shared, links := s.links, motion := s.motion } = s := by
  unfold State.setCauses State.notifyCrane State.notify State.modOrder State.setEntry
  repeat' split
  all_goals rfl

theorem State.enterStage_frame (s : State) (e : Nat) (st : Stage) :
    { s.enterStage e st with shared := s.shared, motion := s.motion } = s := by
  unfold State.enterStage State.setEntry
  repeat' split
  all_goals rfl

theorem State.endRecall_frame (s : State) (h : Handle) (k : RecallOutcome) :
    { s.endRecall h k with shared := s.shared, links := s.links } = s := by
  unfold State.endRecall State.notify State.setEntry
  repeat' split
  all_goals rfl

theorem State.breachNow_frame (s : State) (c : Crane) (k : BreachKind) (x : Nat) (o : Option (Nat × Interval)) :
    { s.breachNow c k x o with runway := s.runway, links := s.links, motion := s.motion } = s := by
  unfold State.breachNow State.notifyCrane
  generalize Notice.breach c k x (s.runway.get c).span o (s.runway.get c.other).span = n
  obtain ⟨L, hL⟩ := State.notify_only ((s.modRunway c fun r => { r with breach := some ⟨k, x, s.hallTime⟩ }).evalMotion c) (.crane c) n
  obtain ⟨M, hM⟩ := State.notify_only { ((s.modRunway c fun r => { r with breach := some ⟨k, x, s.hallTime⟩ }).evalMotion c) with links := L } .office n
  simp only [hL, hM]
  rfl

theorem State.closeSession_frame (s : State) (b : Bed) :
    { s.closeSession b with
      quiesce := s.quiesce, permit := s.permit, beacon := s.beacon, links := s.links } = s := by
  unfold State.closeSession
  generalize hq : s.setQuiesce b _ = q
  obtain ⟨L, hL⟩ := State.notify_only q (.bed b) (.resume (s.quiesce.get b).session)
  rw [hL]
  have h := State.setQuiesce_frame s b fun q =>
      { q with state := .running, holders := noHolders, allowance := false, parked := false, degraded := false,
               timer := none }
  rw [hq] at h
  calc _ = { q with permit := s.permit, quiesce := s.quiesce, beacon := s.beacon, links := s.links } := rfl
    _ = { { q with permit := s.permit, quiesce := s.quiesce, beacon := s.beacon } with links := s.links } := rfl
    _ = { s with links := s.links } := by rw [h]
    _ = s := rfl

/-! ### The lines -/

/-- R116: after its evaluation the line stands at the level its conditions give. -/
theorem State.evalPermit_permit (s : State) (b : Bed) : (s.evalPermit b).permit = s.permit.set b (s.permitDue b) := by
  unfold State.evalPermit
  split
  · rename_i h; rw [h]; rfl
  · rename_i h; rw [Bool.not_eq_true] at h; rw [h]; rfl

/-- R149. -/
theorem State.evalMotion_get (s : State) (c : Crane) : (s.evalMotion c).motion.get c = s.motionDue c := by
  simp

/-! ### Records -/

theorem State.recordOf_some {s : State} {h : Handle} {r : Record} (hr : s.recordOf h = some r) :
    (s.slot h.index).gen = h.gen ∧ (s.slot h.index).content = some r := by
  unfold State.recordOf at hr
  split at hr
  · exact ⟨‹_›, hr⟩
  · cases hr

theorem State.slot_setSlot (s : State) (i j : Nat) (v : Slot) (hi : i < Config.slotCount) :
    (s.setSlot i v).slot j = if j = i then v else s.slot j := by
  unfold State.slot State.setSlot
  simp only [Vector.getElem?_setIfInBounds]
  split
  · rename_i h; subst h; simp
  · rename_i h; simp [Ne.symm h]

/-! ### Searches -/

theorem State.orders_mem {s : State} {e : Nat} {o : Order} (h : (e, o) ∈ s.orders) :
    e ∈ sharedNumbers ∧ s.orderAt e = some o := by
  unfold State.orders at h
  rw [List.mem_filterMap] at h
  obtain ⟨a, ha, hb⟩ := h
  cases ho : s.orderAt a with
  | none => rw [ho] at hb; cases hb
  | some x => rw [ho] at hb; cases hb; exact ⟨ha, ho⟩

theorem State.entry_range {s : State} {e : Nat} {v : Entry} (h : s.entry e = some v) : e ∈ sharedNumbers := by
  unfold State.entry at h
  by_cases he : 2 ≤ e
  · rw [if_pos he] at h
    by_cases h7 : e - 2 < Config.sharedCount
    · simp [sharedNumbers, Config.sharedCount] at h7 ⊢; omega
    · rw [Vector.getElem?_eq_none (by omega)] at h; cases h
  · rw [if_neg he] at h; cases h

theorem State.mem_orders {s : State} {e : Nat} {o : Order} (h : s.orderAt e = some o) : (e, o) ∈ s.orders := by
  unfold State.orders
  refine List.mem_filterMap.2 ⟨e, ?_, by rw [h]; rfl⟩
  unfold State.orderAt at h
  split at h
  · rename_i he; exact State.entry_range he
  · cases h

/-- What holds of every record in the slots holds of every record a handle names. -/
theorem State.forall_records {s : State} {P : Record → Prop} (h : ∀ q ∈ s.slots.toList.filterMap Slot.content, P q) :
    ∀ h q, s.recordOf h = some q → P q := by
  intro a q hq
  unfold State.recordOf State.slot at hq
  split at hq
  · refine h q (List.mem_filterMap.2 ?_)
    cases hs : s.slots[a.index]? with
    | none => rw [hs] at hq; simp at hq
    | some v => rw [hs] at hq; exact ⟨v, by simpa using Vector.mem_of_getElem? hs, hq⟩
  · cases hq

/-- What holds of every order of the search holds of every order of the table. -/
theorem State.forall_orders {s : State} {P : Nat → Order → Prop} (h : ∀ q ∈ s.orders, P q.1 q.2) :
    ∀ e o, s.orderAt e = some o → P e o := fun _ _ ho => h _ (State.mem_orders ho)

theorem State.findOrder_spec {s : State} {r : OrderRef} {e : Nat} {o : Order} (h : s.findOrder r = some (e, o)) :
    s.orderAt e = some o ∧ o.ref = r := by
  have hm := List.mem_of_find?_eq_some h
  have hp := List.find?_some h
  exact ⟨(State.orders_mem hm).2, by simpa using hp⟩

theorem State.activeOrder_spec {s : State} {c : Crane} {e : Nat} {o : Order} (h : s.activeOrder c = some (e, o)) :
    s.orderAt e = some o ∧ o.crane = c ∧ o.stage ≠ .queued := by
  have hm := List.mem_of_find?_eq_some h
  have hp := List.find?_some h
  simp at hp
  exact ⟨(State.orders_mem hm).2, hp.1, hp.2⟩

theorem State.queuedOrder_spec {s : State} {c : Crane} {e : Nat} {o : Order} (h : s.queuedOrder c = some (e, o)) :
    s.orderAt e = some o ∧ o.crane = c ∧ o.stage = .queued := by
  have hm := List.mem_of_find?_eq_some h
  have hp := List.find?_some h
  simp at hp
  exact ⟨(State.orders_mem hm).2, hp.1, hp.2⟩

theorem State.grantedOrder_spec {s : State} {c : Crane} {e : Nat} {o : Order} (h : s.grantedOrder c = some (e, o)) :
    s.orderAt e = some o ∧ o.crane = c ∧ o.stage ≠ .queued ∧ o.spanHeld = true := by
  unfold State.grantedOrder at h
  rw [Option.filter_eq_some_iff] at h
  obtain ⟨ha, hb⟩ := h
  exact ⟨(State.activeOrder_spec ha).1, (State.activeOrder_spec ha).2.1, (State.activeOrder_spec ha).2.2, hb⟩

theorem State.freeEntry_spec {s : State} {e : Nat} (h : s.freeEntry = some e) :
    e ∈ sharedNumbers ∧ s.entry e = none := by
  have hm := List.mem_of_find?_eq_some h
  have hp := List.find?_some h
  exact ⟨hm, by simpa using hp⟩

theorem sharedNumbers_range {e : Nat} (h : e ∈ sharedNumbers) : 2 ≤ e ∧ e ≤ 7 := by
  simp [sharedNumbers] at h; omega

/-- What an entry reads after one of the shared entries is written. -/
theorem State.entry_setEntry (s : State) (e d : Nat) (v : Option Entry) (he : e ∈ sharedNumbers) :
    (s.setEntry e v).entry d = if d = e then v else s.entry d := by
  obtain ⟨h2, h7⟩ := sharedNumbers_range he
  unfold State.entry State.setEntry
  simp only [h2, if_true, Vector.getElem?_setIfInBounds, Config.sharedCount]
  by_cases hd : d = e
  · subst hd
    have h6 : d - 2 < 6 := by omega
    simp [h2, h6]
  · by_cases h2d : 2 ≤ d
    · have hne : ¬(e - 2 = d - 2) := by omega
      simp [h2d, hd, hne]
    · simp [h2d, hd]

/-! ### Inductions -/

/-- What every task keeps, an agenda keeps. -/
theorem runAgenda_keeps {P : State → Prop} (step : ∀ t s, P s → P (perform t s).1) (n : Nat) (ts : List Task) (s : State)
    (h : P s) : P (runAgenda n ts s) := by
  induction n generalizing ts s with
  | zero => exact h
  | succ n ih =>
    cases ts with
    | nil => exact h
    | cons t ts => exact ih _ _ (step t s h)

theorem State.settle_keeps {P : State → Prop} (step : ∀ t s, P s → P (perform t s).1) (ts : List Task) (s : State)
    (h : P s) : P (s.settle ts) :=
  runAgenda_keeps step agendaBound ts s h

/-- What the tasks of a kind closed under what follows from them keep, an agenda of that kind keeps. -/
theorem runAgenda_keeps_of {P : State → Prop} {K : Task → Prop} (step : ∀ t s, K t → P s → P (perform t s).1)
    (closed : ∀ t s, K t → ∀ u ∈ (perform t s).2, K u) (n : Nat) (ts : List Task) (s : State) (hk : ∀ t ∈ ts, K t)
    (h : P s) : P (runAgenda n ts s) := by
  induction n generalizing ts s with
  | zero => exact h
  | succ n ih =>
    cases ts with
    | nil => exact h
    | cons t ts =>
      refine ih _ _ ?_ (step t s (hk t (by simp)) h)
      intro u hu
      rcases List.mem_append.mp hu with hu | hu
      · exact closed t s (hk t (by simp)) u hu
      · exact hk u (by simp [hu])

theorem State.settle_nil (s : State) : s.settle [] = s := rfl

/-- What one round of a loop over orders keeps, the loop keeps. -/
theorem State.forOrders_keeps {P : State → Prop} (keep : Order → Bool) (f : State → Nat → State)
    (step : ∀ s e, P s → P (f s e)) (s : State) (h : P s) : P (s.forOrders keep f) := by
  unfold State.forOrders
  generalize (s.orders.filter fun q => keep q.2).map (·.1) = es
  induction es generalizing s with
  | nil => exact h
  | cons e es ih => exact ih _ (step s e h)

/-- A loop over a list keeps what each round keeps. -/
theorem foldl_keeps {α : Type} {P : State → Prop} (f : State → α → State) (step : ∀ s a, P s → P (f s a)) (as : List α)
    (s : State) (h : P s) : P (as.foldl f s) := by
  induction as generalizing s with
  | nil => exact h
  | cons a as ih => exact ih _ (step s a h)

/-! ### Requests and events -/

/-- Everything a request can come to: the refusal of R188, or what its owning block replies. -/
theorem takeRequest_cases (r : Req) (k : RequestKind) (s : State) (owner : State → Reply) :
    (∃ code, (s.receive r.link).linkCheck r k = some code ∧
      takeRequest r k s owner = .next ((s.receive r.link).answer r k code .empty)) ∨
    ((s.receive r.link).linkCheck r k = none ∧
      takeRequest r k s owner =
        .next ((owner (s.receive r.link)).1.answer r k (owner (s.receive r.link)).2.1 (owner (s.receive r.link)).2.2)) := by
  unfold takeRequest
  split
  · rename_i code h; exact .inl ⟨code, h, rfl⟩
  · rename_i h; exact .inr ⟨h, rfl⟩

/-- A request whose checks pass is taken by its owning block. -/
theorem takeRequest_owner {r : Req} {k : RequestKind} {s : State} (owner : State → Reply)
    (h : (s.receive r.link).linkCheck r k = none) :
    takeRequest r k s owner =
      .next ((owner (s.receive r.link)).1.answer r k (owner (s.receive r.link)).2.1 (owner (s.receive r.link)).2.2) := by
  unfold takeRequest; rw [h]

/-- No request stops the part. -/
theorem takeRequest_next (r : Req) (k : RequestKind) (s : State) (owner : State → Reply) :
    ∃ t, takeRequest r k s owner = .next t := by
  rcases takeRequest_cases r k s owner with ⟨_, _, h⟩ | ⟨_, h⟩ <;> exact ⟨_, h⟩

theorem takeEvent_of {s : State} {holds : State → Bool} (effect : State → State) (h : holds s.quiet = true) :
    takeEvent s holds effect = .next (effect s.quiet) := by
  simp [takeEvent, h]

theorem takeEvent_not {s : State} {holds : State → Bool} (effect : State → State) (h : holds s.quiet = false) :
    takeEvent s holds effect = .next s.quiet := by
  simp [takeEvent, h]

/-! ### The receiver -/

/-- The hunt passes over no valid frame (R187). -/
theorem countFrames_hunt (bs : List Byte) : countFrames 0 (hunt bs) = countFrames 0 bs := by
  induction bs with
  | nil => rfl
  | cons b bs ih => rw [hunt]; split <;> simp_all [countFrames]

/-- Nor does it drop a byte of one. -/
theorem keepFrames_hunt (bs : List Byte) : keepFrames 0 (hunt bs) = keepFrames 0 bs := by
  induction bs with
  | nil => rfl
  | cons b bs ih => rw [hunt]; split <;> simp_all [keepFrames]

@[simp] theorem LinkState.hear_received (q : LinkState) (now : Time) (bytes : List Byte) :
    (q.hear now bytes).received = hunt (q.received ++ bytes) := rfl

/-- Bytes that arrive restart the silence count exactly when they complete a frame (R187, log 8). -/
theorem LinkState.hear_lastFrame (q : LinkState) (now : Time) (bytes : List Byte) :
    (q.hear now bytes).lastFrame =
      if countFrames 0 q.received < countFrames 0 (q.received ++ bytes) then some now else q.lastFrame := by
  simp only [LinkState.hear, countFrames_hunt]

end Sys2Proof.Machine
end

