-- ==== Sys2Proof/Tests/Slice0.lean ====
section
/-! SUPPORT. The author's own tests: commands that WellFormed refuses, one step of each command on a small state with the
outcome the spec gives, and for every statement a state and operands that meet its hypotheses. -/

set_option Elab.async false

namespace Sys2Proof.Tests

open Sys2Proof Sys2Proof.Machine

/-! ### Small states -/

def up : LinkState := { startLink with up := true, lastFrame := some 0 }

def zoneList : List Zone :=
  [⟨true, 0, 15000, .infeed⟩, ⟨true, 15000, 60000, .stacking 4 2000 34000 [0, 1, 2, 3]⟩,
   ⟨true, 60000, 66000, .park⟩, ⟨true, 66000, 90000, .station .one .a⟩, ⟨true, 90000, 114000, .station .one .b⟩,
   ⟨true, 114000, 138000, .station .two .a⟩, ⟨true, 138000, 162000, .station .two .b⟩,
   ⟨true, 162000, 170000, .scrap⟩]

def withZones (zs : Vector Zone 16) (i : Nat) : List Zone → Vector Zone 16
  | [] => zs
  | z :: rest => withZones (zs.setIfInBounds i z) (i + 1) rest

def beam : CraneParams := { swl := 16000, tare := 3200, halfLength := 6000, clearance := 1500 }

/-- A hall after the reference hall of 00: one infeed, four stacks, four stations, scrap, on a runway of 180 m. -/
def plan : HallConfig :=
  { defaultConfig with
    zones := withZones defaultConfig.zones 0 zoneList
    stackTable := (((defaultConfig.stackTable.setIfInBounds 0 ⟨1, 0, ⟨37500, 6000⟩, 16, 1000⟩).setIfInBounds 1
      ⟨1, 1, ⟨37500, 14000⟩, 16, 1000⟩).setIfInBounds 2 ⟨1, 2, ⟨37500, 22000⟩, 16, 1000⟩).setIfInBounds 3
      ⟨1, 3, ⟨37500, 30000⟩, 16, 1000⟩
    stationCentres := ⟨⟨⟨78000, 18000⟩, ⟨102000, 18000⟩⟩, ⟨⟨126000, 18000⟩, ⟨150000, 18000⟩⟩⟩
    grades := defaultConfig.grades.setIfInBounds 0 ⟨true, ['S', '3', '5', '5'], 785⟩
    infeedCentre := ⟨7500, 18000⟩
    scrapCentre := ⟨166000, 18000⟩
    cranes := ⟨beam, beam⟩
    runway := 180000 }

/-- In RUN with every link UP; no crane has reported a position. -/
def hall : State :=
  { State.reset with
    part := .run, validMark := true, committed := plan, staged := plan, links := ⟨up, ⟨up, up⟩, ⟨up, up⟩⟩ }

/-- The same in CONFIG. -/
def desk : State := { hall with part := .config }

/-- The cranes at 30,000 and 150,000 mm with their REST spans. -/
def manned : State :=
  { hall with
    runway := ⟨{ startRunway with lastX := some 30000, span := some ⟨.rest, ⟨22500, 37500⟩⟩ },
      { startRunway with lastX := some 150000, span := some ⟨.rest, ⟨142500, 157500⟩⟩ }⟩
    motion := ⟨true, true⟩ }

def req (l : Link) (tag : Nat) : Req := { link := l, tag := tag, status := 0, fits := true }
def office (tag : Nat) : Req := req .office tag
def bed1 : Req := req (.bed .one) 9
def crane1 (tag : Nat) : Req := req (.crane .one) tag

def plate : Record :=
  { kind := .plate, grade := 0, heat := ['K', '7'], length := 12000, width := 3000, thickness := 14, mass := 3957,
    parent := none, custody := .rest, booking := none, waitSlot := none, quarantine := false, incomplete := false }

/-- Record `r` in slot i, generation 1, at the tail of a place. -/
def put (s : State) (i : Nat) (r : Record) (p : Place) : State :=
  (s.setSlot i ⟨1, some r⟩).setListAt p (s.listAt p ++ [⟨i, 1⟩])

def h0 : Handle := ⟨0, 1⟩
def h1 : Handle := ⟨1, 1⟩

def partOf (m : MarkState) : Part :=
  { mark := ['A'], area := 100000, marking := true, state := m, attempts := 0, cut := false }

def nestOf (parts : List Part) : Nest :=
  { plate := h0, name := ['N'], area := 360000, parts := parts, pierces := 0, arcTime := 0 }

/-- A plate on bed 1's active station, in the bed's claim. -/
def claimed (c : Custody) (parts : List Part) : State :=
  { put hall 0 { plate with custody := c } (.station .one .a) with claims := ⟨some (nestOf parts), none⟩ }

def withOrder (s : State) (e : Nat) (o : Order) : State := s.setEntry e (some (.order o))
def withRecall (s : State) (e : Nat) : State := s.setEntry e (some (.recall ⟨4, h0, .one, ⟨2⟩⟩))

def session (st : QuiesceState) (held : HolderSet) : Quiesce :=
  { startQuiesce with state := st, holders := held, session := 1, timer := some ⟨2⟩ }

def withSession (s : State) (st : QuiesceState) (held : HolderSet) : State :=
  { s with quiesce := ⟨session st held, startQuiesce⟩ }

def heldByHall : HolderSet := { order := ⟨none, none⟩, hall := true }
def heldByOne : HolderSet := { order := ⟨some 1, none⟩, hall := false }

def way : Sweep := { extent := 6000, span := ⟨0, 90000⟩, corridor := ⟨0, 80000⟩ }

/-- Crane 1's order 1, from stack 0 to stack 1, with its span. -/
def lift (st : Stage) : Order :=
  { newOrder .one 1 .move (some (.stack 0)) 1 (.place (.stack 1)) with
    stage := st, records := [h0], inbound := some ⟨.stack 1, 1, 14⟩, sweep := some way, spanHeld := true }

def ride (st : Stage) : Order :=
  { newOrder .one 1 .travel none 0 (.x 60000) with stage := st, sweep := some way, spanHeld := true }

def granted : State :=
  { manned with runway := ⟨{ manned.runway.one with span := some ⟨.move, ⟨0, 90000⟩⟩ }, manned.runway.two⟩ }

/-- Crane 1 at stack 0 with the booked plate still there. -/
def lifting (st : Stage) : State :=
  withOrder (put granted 0 { plate with booking := some ⟨.one, 1⟩ } (.stack 0)) 2 (lift st)

/-- Crane 1 with the plate on its hook. -/
def loaded (st : Stage) : State :=
  withOrder (put granted 0 { plate with custody := .carried .one } (.hook .one)) 2 (lift st)

/-- The same state at the next tick of a class. -/
def ticking (k : TimeoutClass) (s : State) : State := { s with hallTime := s.nextTick.get k }

/-! ### What an outcome holds -/

def after (o : Host.Outcome State Fault Refusal) : Option State :=
  match o with
  | .next t => some t
  | .fault _ => none
  | .refused _ => none

def answer (o : Host.Outcome State Fault Refusal) : Option (Status × AnswerBody) :=
  (after o).bind fun t => t.txAnswer.map fun a => (a.status, a.body)

def code (o : Host.Outcome State Fault Refusal) : Option Status := (answer o).map (·.1)

/-! ### Commands that WellFormed refuses, one for each check -/

theorem test_illFormed_frame_bytes :
    [Instr.status { office 256 with fits := true }, .status { office 1 with status := 256 }, .orderExpiry 1, .orderExpiry 8,
      .recallExpiry 1, .recallExpiry 8, .hello (office 1) 256 0, .hello (office 1) 1 256].all (!·.wellFormed) = true := by
  decide

theorem test_illFormed_queries :
    [Instr.queryRecord (office 1) (.record 65536) none, .queryRecord (office 1) (.otherObject 6) none,
      .queryRecord (office 1) (.otherObject 256) none, .queryRecord (office 1) (.record 0) (some 256), .queryStack (office 1) 256,
      .queryStation (office 1) 256 0, .queryStation (office 1) 1 256, .queryOrder (office 1) 256 0,
      .queryOrder (office 1) 1 256, .queryCrane (office 1) 256, .queryBed (office 1) 256].all (!·.wellFormed) = true := by
  decide

theorem test_illFormed_records :
    [Instr.register (office 1) 256 [] 1 1 1, .register (office 1) 0 ['é', 'Ā'] 1 1 1, .register (office 1) 0 [] 65536 1 1,
      .register (office 1) 0 [] 1 65536 1, .register (office 1) 0 [] 1 1 256,
      .edit (office 1) ⟨65536, 0⟩ ⟨none, none, none, none, none⟩, .edit (office 1) h0 ⟨some ['Ā'], none, none, none, none⟩,
      .edit (office 1) h0 ⟨none, some 256, none, none, none⟩, .edit (office 1) h0 ⟨none, none, some 65536, none, none⟩,
      .edit (office 1) h0 ⟨none, none, none, some 65536, none⟩, .edit (office 1) h0 ⟨none, none, none, none, some 256⟩,
      .retire (office 1) ⟨0, 256⟩ .shipped, .quarantineSet (office 1) ⟨65536, 0⟩, .quarantineClear (office 1) ⟨0, 256⟩,
      .recall (office 1) ⟨65536, 0⟩, .waiveMark (office 1) h0 256].all (!·.wellFormed) = true := by
  decide

theorem test_illFormed_configuration :
    [Instr.configWriteZone (office 1) 256 ⟨true, 0, 1, .park⟩, .configWriteZone (office 1) 0 ⟨true, 4294967296, 1, .park⟩,
      .configWriteZone (office 1) 0 ⟨true, 0, 4294967296, .park⟩,
      .configWriteZone (office 1) 0 ⟨true, 0, 1, .stacking 256 0 1 []⟩,
      .configWriteZone (office 1) 0 ⟨true, 0, 1, .stacking 1 4294967296 1 []⟩,
      .configWriteZone (office 1) 0 ⟨true, 0, 1, .stacking 1 0 4294967296 []⟩,
      .configWriteZone (office 1) 0 ⟨true, 0, 1, .stacking 1 0 1 [256]⟩,
      .configWriteZone (office 1) 0 ⟨true, 0, 1, .station 256 0⟩, .configWriteZone (office 1) 0 ⟨true, 0, 1, .station 1 256⟩,
      .configWriteZone (office 1) 0 ⟨true, 0, 1, .other 256⟩, .configWriteStack (office 1) 256 ⟨0, 0, 0, 0, 1, 50⟩,
      .configWriteStack (office 1) 0 ⟨256, 0, 0, 0, 1, 50⟩, .configWriteStack (office 1) 0 ⟨0, 256, 0, 0, 1, 50⟩,
      .configWriteStack (office 1) 0 ⟨0, 0, 4294967296, 0, 1, 50⟩, .configWriteStack (office 1) 0 ⟨0, 0, 0, 4294967296, 1, 50⟩,
      .configWriteStack (office 1) 0 ⟨0, 0, 0, 0, 256, 50⟩, .configWriteStack (office 1) 0 ⟨0, 0, 0, 0, 1, 65536⟩,
      .configWriteStationCentre (office 1) 256 0 0 0, .configWriteStationCentre (office 1) 1 256 0 0,
      .configWriteStationCentre (office 1) 1 0 4294967296 0, .configWriteStationCentre (office 1) 1 0 0 4294967296,
      .configWriteGrade (office 1) 256 ⟨true, [], 100⟩, .configWriteGrade (office 1) 0 ⟨true, ['Ā'], 100⟩,
      .configWriteGrade (office 1) 0 ⟨true, [], 65536⟩].all (!·.wellFormed) = true := by
  decide

theorem test_illFormed_settings :
    [Instr.configWriteInfeedCentre (office 1) 4294967296 0, .configWriteScrapCentre (office 1) 0 4294967296,
      .configWriteCraneParameter (office 1) 256 .swl 0, .configWriteCraneParameter (office 1) 1 .swl 4294967296,
      .configWriteRunwayLength (office 1) 4294967296, .configWriteTimeoutPeriod (office 1) .wait 4294967296,
      .configWriteConsumableSetting (office 1) 256 .minArc 0, .configWriteConsumableSetting (office 1) 1 .minArc 4294967296,
      .configWriteBeaconSetting (office 1) 256 .otherMode, .configWriteMinimumRemnant (office 1) .length 4294967296,
      .configWriteSilenceLimit (office 1) 4294967296].all (!·.wellFormed) = true := by
  decide

theorem test_illFormed_beds_and_cranes :
    [Instr.claim bed1 h0 ⟨['Ā'], 1, [], 1⟩, .claim bed1 h0 ⟨[], 256, [], 1⟩, .claim bed1 h0 ⟨[], 1, [], 256⟩,
      .claim bed1 h0 ⟨[], 1, [⟨['Ā'], 1, .mark⟩], 1⟩, .claim bed1 h0 ⟨[], 1, [⟨[], 4294967296, .mark⟩], 1⟩,
      .return_ bed1 h0 ⟨256, [], 0, 0⟩, .return_ bed1 h0 ⟨0, [], 65536, 0⟩, .return_ bed1 h0 ⟨0, [], 0, 4294967296⟩,
      .return_ bed1 h0 ⟨1, [⟨65536, 0, 1, 1⟩], 0, 0⟩, .return_ bed1 h0 ⟨1, [⟨0, 65536, 1, 1⟩], 0, 0⟩,
      .return_ bed1 h0 ⟨1, [⟨0, 0, 65536, 1⟩], 0, 0⟩, .return_ bed1 h0 ⟨1, [⟨0, 0, 1, 65536⟩], 0, 0⟩,
      .marked bed1 256, .contourDone bed1 256, .move (crane1 1) (.stack 256) 1 .scrap,
      .move (crane1 1) .infeed 256 .scrap, .move (crane1 1) .infeed 1 (.other 4), .move (crane1 1) .infeed 1 (.other 256),
      .move (crane1 1) (.station 256 0) 1 .scrap, .move (crane1 1) (.hook 256) 1 .scrap, .travel (crane1 1) 2147483648,
      .at_ (crane1 1) (-2147483649), .picked (crane1 1) 256 1, .picked (crane1 1) 1 256, .landed (crane1 1) 1 0 2147483648,
      .redirect (crane1 1) 256 .scrap, .redirect (crane1 1) 1 (.stack 256),
      .unknownRequestKind (office 1) 256, .unknownRequestKind (office 1) 16].all (!·.wellFormed) = true := by
  decide

theorem test_wellFormed_commands :
    [Instr.register (office 1) 0 ['K'] 12000 3000 14, .claim bed1 h0 ⟨['N'], 1, [⟨['A'], 100000, .mark⟩], 1⟩,
      .landed (crane1 1) 1 (-5) 6000, .unknownRequestKind (office 1) 4, .orderExpiry 2, .recallExpiry 7].all
        (·.wellFormed) = true := by
  decide

/-! ### Worked values of the spec -/

/-- R126: the reference plate of 12,000 x 3,000 x 14 mm at 7.85 weighs 3,957 kg. -/
theorem test_mass_of_the_reference_plate :
    answer (exec (.register (office 1) 0 ['K'] 12000 3000 14) hall) = some (.ok, .registered ⟨0, 1⟩ 3957) := by
  decide +kernel

/-- R127: 9,500 cm² of scrap of 14 mm plate weigh 105 kg, and 1 cm² of 3 mm at density 100 weighs 1 kg. -/
theorem test_skeleton_mass : skeletonMass 9500 14 785 = 105 ∧ skeletonMass 1 3 100 = 1 := by decide

/-- R133: a crane at 150,000 rests on [142,500, 157,500], one at 3,000 on [0, 10,500]. -/
theorem test_rest_spans :
    hall.extentInterval .one 150000 = ⟨142500, 157500⟩ ∧ hall.clearanceInterval .one 150000 = ⟨148500, 151500⟩ ∧
      hall.extentInterval .one 3000 = ⟨0, 10500⟩ := by
  decide +kernel

/-- R130: extents of 12,000, 12,001 and 16,000 mm plates under a beam of half length 6,000. -/
theorem test_extents : extentOf [12000] 6000 = 6000 ∧ extentOf [12001] 6000 = 6001 ∧ extentOf [16000] 6000 = 8000 := by
  decide

/-- R134: intervals that share one end overlap; a span that begins at a zone's upper bound does not overlap the zone. -/
theorem test_overlap_at_the_ends :
    (⟨30000, 109500⟩ : Interval).overlaps ⟨109500, 124500⟩ = true ∧
      (⟨true, 60000, 66000, .park⟩ : Zone).overlaps ⟨66000, 70000⟩ = false ∧
      (⟨true, 66000, 90000, .station .one .a⟩ : Zone).overlaps ⟨60000, 66000⟩ = true := by
  decide

/-- R24: four lanes over y from 2,000 to 34,000; R23: x at a zone's upper bound belongs to the next zone. -/
theorem test_places_decoded :
    plan.placeAt 37500 2000 = some (.stack 0) ∧ plan.placeAt 37500 9999 = some (.stack 0) ∧
      plan.placeAt 37500 10000 = some (.stack 1) ∧ plan.placeAt 37500 33999 = some (.stack 3) ∧
      plan.placeAt 37500 34000 = none ∧ plan.placeAt 60000 6000 = none ∧
      plan.placeAt 66000 (-1) = some (.station .one .a) ∧ plan.placeAt 180000 0 = none := by
  decide +kernel

/-- R88: the arc struck at 4,294,967,000 and broken at 704 lasted 1,000 ms. -/
theorem test_arc_over_the_wrap :
    ((after (exec (.arcSenseFallingEdge .one)
      { hall with hallTime := 704, arcs := ⟨⟨some 4294967000, none⟩, ⟨none, none⟩⟩ })).map
        fun t => (t.consumables.one.arcTime, t.consumables.one.pierces, t.consumables.one.misfires)) =
      some (1000, 1, 0) := by
  decide +kernel

/-- R187: CRC-16 with generator 1021 and initial value all ones over "123456789" is 29B1. -/
theorem test_crc_check_value : crc16 [0x31, 0x32, 0x33, 0x34, 0x35, 0x36, 0x37, 0x38, 0x39] = 0x29B1#16 := by decide +kernel

/-! ### One step of each command -/

theorem test_start_drops_the_claim_and_recovers_the_plate :
    ((after (exec (.start false false false) (claimed (.worked .one) [partOf .marked]))).map fun t =>
      (t.part, t.claims.one.isSome, (t.recordOf h0).map fun r => (r.custody, r.incomplete, r.quarantine))) =
      some (.run, false, some (.rest, true, true)) := by decide +kernel

/-- A body of 1,601 bytes discards its frame, and hunting goes on after its start byte. -/
theorem test_frame_discarded :
    ((after (exec (.frameDiscarded .office [0x00, 0xA5, 0x41, 0x06, 0xA5, 0x00]) hall)).map
      fun t => t.links.office.received) = some [0xA5, 0x00] := by decide +kernel

/-- A STATUS frame completed behind one that still waits restarts the silence count, and both outlast the link's DOWN. -/
theorem test_frame_completed_behind_a_frame :
    ((after (exec (.frameDiscarded .office [0x06, 0xA5])
        { hall with hallTime := 7, links := { hall.links with office :=
          { up with received := frameBytes 2 1 0 [] ++ (frameBytes 2 6 0 []).dropLast } } })).map
      fun t => t.links.office.lastFrame) = some (some 0) ∧
    (∃ b, frameBytes 2 6 0 [] = (frameBytes 2 6 0 []).dropLast ++ [b] ∧
      ((after (exec (.frameDiscarded .office [b, 0xA5])
        { hall with hallTime := 7, links := { hall.links with office :=
          { up with received := frameBytes 2 1 0 [] ++ (frameBytes 2 6 0 []).dropLast } } })).map
        fun t => (t.links.office.lastFrame, completeFrames t.links.office.received)) =
      some (some 7, frameBytes 2 1 0 [] ++ frameBytes 2 6 0 [])) :=
  ⟨by decide +kernel, (frameBytes 2 6 0 []).getLastD 0, by decide +kernel, by decide +kernel⟩

theorem test_notice_sent :
    ((after (exec (.noticeSent .office) { hall with links := { hall.links with
        office := { up with queue := [.faultCleared .one [], .faultCleared .two []], sending := some 3, dropped := 5 } } })).map
      fun t => (t.txNotice.map (·.gap), t.links.office.queue.length, t.links.office.sending, t.links.office.dropped)) =
      some (some 3, 1, some 5, 0) := by
  decide +kernel

theorem test_silence_expiry_at_the_limit :
    ((after (exec (.silenceExpiry .office) { hall with hallTime := 1001 })).map fun t => t.linkUp .office) = some false ∧
    ((after (exec (.silenceExpiry .office) { hall with hallTime := 1000 })).map fun t => t.linkUp .office) = some true := by
  decide +kernel

theorem test_e_stop_halts_a_lift :
    ((after (exec .eStopAsserted (lifting .pickup))).map fun t =>
      ((t.orderAt 2).map fun o => (o.stage, o.remembered, o.causes.estop), t.motion)) =
      some (some (.halted, .pickup, true), ⟨false, false⟩) := by decide +kernel

theorem test_e_stop_released_leaves_the_order_halted :
    ((after (exec .eStopReleased { withOrder manned 2
        { lift .halted with remembered := .pickup, causes := { noCauses with estop := true } } with eStop := true })).map
      fun t => (t.eStop, (t.orderAt 2).map fun o => (o.stage, o.causes.estop), t.motion)) =
      some (false, some (.halted, false), ⟨true, true⟩) := by decide +kernel

theorem test_unpermitted_arc_quarantines :
    ((after (exec (.arcSenseRisingEdge .one) (put hall 0 plate (.station .one .a)))).map fun t =>
      (t.arcs.one.fault, (t.recordOf h0).map (·.quarantine))) = some (some 0, some true) := by decide +kernel

theorem test_short_arc_is_a_misfire :
    ((after (exec (.arcSenseFallingEdge .one) { hall with hallTime := 39, arcs := ⟨⟨some 0, none⟩, ⟨none, none⟩⟩ })).map
      fun t => (t.consumables.one.pierces, t.consumables.one.misfires)) = some (0, 1) := by decide +kernel

theorem test_beacon_off_in_the_odd_half_second :
    ((after (exec .beaconFlashBoundary { hall with
        hallTime := 500
        consumables := ⟨{ freshConsumable with state := .hold }, freshConsumable⟩
        committed := { plan with beacons := ⟨⟨.both, .activeHigh⟩, defaultBeacon⟩ }
        beacon := ⟨true, false⟩ })).map fun t => t.beacon) = some ⟨false, false⟩ := by decide +kernel

theorem test_class_tick_ages_a_waiting_order :
    ((after (exec (.classTick .wait) (withOrder { hall with hallTime := 10000 } 2
        { ride .reserving with timer := some ⟨1⟩ }))).map fun t =>
      ((t.orderAt 2).map (·.timer), t.nextTick.get .wait)) = some (some (some ⟨2⟩), 20000) := by decide +kernel

theorem test_order_expiry_halts_a_ride :
    ((after (exec (.orderExpiry 2) (ticking .travel (withOrder granted 2 { ride .carry with timer := some ⟨2⟩ })))).map fun t =>
      (t.orderAt 2).map fun o => (o.stage, o.causes.timeout)) = some (some (.halted, true)) := by decide +kernel

theorem test_recall_expiry_frees_its_entry :
    ((after (exec (.recallExpiry 2) (ticking .answer (withRecall (claimed (.claimed .one) []) 2)))).map fun t =>
      (t.entry 2, t.links.office.queue)) =
      some (none, [.recallEnd 4 h0 .noAnswer (some (.claimed .one))]) := by decide +kernel

theorem test_stopping_expiry_parks :
    ((after (exec (.stoppingExpiry .one) (ticking .answer (withSession hall .stopping heldByHall)))).map fun t =>
      (t.quiesce.one.state, t.quiesce.one.timer)) = some (.parking, some ⟨0⟩) := by decide +kernel

theorem test_parking_expiry_ends_the_order :
    ((after (exec (.parkingExpiry .one) (ticking .answer (withSession (withOrder granted 2 (ride .reserving)) .parking
      heldByOne)))).map fun t => (t.quiesce.one.state, t.orderAt 2)) = some (.running, none) := by decide +kernel

theorem test_hello_brings_the_office_up :
    ((after (exec (.hello (office 5) 1 8) State.reset)).map fun t => (t.linkUp .office, t.mask, t.txAnswer.map (·.tag))) =
      some (true, ⟨false, false, false, true, false⟩, some 5) := by decide +kernel

theorem test_status_on_a_down_link : code (exec (.status (office 1)) State.reset) = some .link := by decide +kernel

theorem test_queries :
    code (exec (.queryRecord (office 1) (.record 511) none) hall) = some .ok ∧
    code (exec (.queryRecord (office 1) (.record 512) none) hall) = some .range ∧
    code (exec (.queryRecord (office 1) (.otherObject 7) none) hall) = some .range ∧
    code (exec (.queryRecord (office 1) (.record 0) (some 1)) hall) = some .stale ∧
    code (exec (.queryStack (office 1) 47) hall) = some .ok ∧ code (exec (.queryStack (office 1) 48) hall) = some .range ∧
    code (exec (.queryStation (office 1) 2 1) hall) = some .ok ∧
    code (exec (.queryOrder (office 1) 4 1) hall) = some .state ∧
    code (exec (.queryCrane (office 1) 3) hall) = some .range ∧ code (exec (.queryBed (office 1) 2) hall) = some .ok := by
  decide +kernel

theorem test_register_beyond_two_waits_for_room :
    code (exec (.register (office 1) 0 ['K'] 12000 3000 14)
      (put (put hall 0 plate .infeed) 1 plate .infeed)) = some .noRoom := by decide +kernel

theorem test_register_without_a_heat : code (exec (.register (office 1) 0 [] 12000 3000 14) hall) = some .range := by
  decide +kernel

theorem test_edit_recomputes_the_mass :
    answer (exec (.edit (office 1) h0 ⟨none, none, none, none, some 28⟩) (put hall 0 plate .infeed)) =
      some (.ok, .mass 7913) := by decide +kernel

theorem test_retire_takes_the_plate_away :
    ((after (exec (.retire (office 1) h0 .shipped) (put hall 0 plate .infeed))).map fun t => (t.infeed, t.recordOf h0)) =
      some ([], none) := by decide +kernel

theorem test_quarantine_set_and_clear :
    ((after (exec (.quarantineSet (office 1) h0) (put hall 0 plate .infeed))).map
      fun t => (t.recordOf h0).map (·.quarantine)) = some (some true) ∧
    ((after (exec (.quarantineClear (office 1) h0) (put hall 0 { plate with quarantine := true } .infeed))).map
      fun t => (t.recordOf h0).map (·.quarantine)) = some (some false) := by decide +kernel

theorem test_recall_codes :
    code (exec (.recall (office 1) h0) (put hall 0 plate .infeed)) = some .done ∧
    code (exec (.recall (office 1) h0) (claimed (.claimed .one) [])) = some .accepted ∧
    code (exec (.recall (office 1) h0) (claimed (.worked .one) [])) = some .kept ∧
    code (exec (.recall (office 1) h0) (loaded .carry)) = some .inTransit := by decide +kernel

theorem test_waive_mark :
    ((after (exec (.waiveMark (office 1) h0 1) (claimed (.claimed .one) [partOf .failed]))).map fun t =>
      (t.claims.one.map fun n => n.parts.map (·.state))) = some (some [.waived]) := by decide +kernel

theorem test_hall_hold_and_release :
    code (exec (.hallHold (office 1)) hall) = some .accepted ∧
    ((after (exec (.hallHold (office 1)) hall)).map fun t => (t.hold, t.quiesce.one.state)) =
      some (some (2, 1), .parking) ∧
    code (exec (.hallRelease (office 1)) hall) = some .ok := by decide +kernel

theorem test_clear_fault_frees_the_order :
    ((after (exec (.clearFault (office 1) 1) (withOrder { manned with arcs := ⟨⟨none, some 3⟩, ⟨none, none⟩⟩ } 2
        { lift .halted with remembered := .pickup, causes := { noCauses with arcFault := true } }))).map fun t =>
      (t.arcs.one.fault, (t.orderAt 2).map (·.causes.arcFault))) = some (none, some false) := by decide +kernel

theorem test_clear_breach_widens_the_span :
    ((after (exec (.clearBreach (office 1) 1) { manned with runway :=
        ⟨{ manned.runway.one with lastX := some 40000, breach := some ⟨.idle, 40000, 5⟩ }, manned.runway.two⟩ })).map
      fun t => (t.runway.one.breach, t.runway.one.span)) = some (none, some ⟨.rest, ⟨22500, 47500⟩⟩) := by decide +kernel

theorem test_configuration_writes :
    code (exec (.configBegin (office 1)) hall) = some .ok ∧
    code (exec (.configWriteZone (office 1) 0 ⟨true, 5, 5, .park⟩) desk) = some .range ∧
    code (exec (.configWriteStack (office 1) 0 ⟨0, 0, 0, 0, 17, 50⟩) desk) = some .range ∧
    code (exec (.configWriteStationCentre (office 1) 1 0 400000 0) desk) = some .ok ∧
    code (exec (.configWriteGrade (office 1) 0 ⟨true, ['A'], 2001⟩) desk) = some .range ∧
    code (exec (.configWriteInfeedCentre (office 1) 400001 0) desk) = some .range ∧
    code (exec (.configWriteScrapCentre (office 1) 0 0) desk) = some .ok ∧
    code (exec (.configWriteCraneParameter (office 1) 2 .swl 999) desk) = some .range ∧
    code (exec (.configWriteRunwayLength (office 1) 400000) desk) = some .ok := by decide +kernel

theorem test_configuration_settings :
    code (exec (.configWriteTimeoutPeriod (office 1) .wait 150) desk) = some .range ∧
    code (exec (.configWriteConsumableSetting (office 1) 1 .minArc 500) desk) = some .ok ∧
    code (exec (.configWriteBeaconSetting (office 1) 1 .otherMode) desk) = some .range ∧
    code (exec (.configWriteMinimumRemnant (office 1) .width 99) desk) = some .range ∧
    code (exec (.configWriteSilenceLimit (office 1) 49) desk) = some .range ∧
    code (exec (.configEnd (office 1)) { desk with staged := defaultConfig }) = some .range ∧
    code (exec (.restart (office 1)) hall) = some .ok ∧ code (exec (.erase (office 1)) hall) = some .state := by
  decide +kernel

theorem test_select_station : ((after (exec (.selectStation bed1 1) hall)).map fun t => t.active.one) = some .b := by
  decide +kernel

theorem test_claim_of_the_sole_plate :
    ((after (exec (.claim bed1 h0 ⟨['N'], 1, [⟨['A'], 100000, .mark⟩], 1⟩) (put hall 0 plate (.station .one .a)))).map
      fun t => (t.custodyOf h0, t.permit.one)) = some (some (.claimed .one), true) := by decide +kernel

theorem test_claim_of_too_much_area :
    code (exec (.claim bed1 h0 ⟨['N'], 1, [⟨['A'], 360001, .mark⟩], 1⟩) (put hall 0 plate (.station .one .a))) =
      some .overrun := by decide +kernel

theorem test_marking :
    code (exec (.nextMark bed1) (claimed (.claimed .one) [partOf .pending])) = some .ok ∧
    code (exec (.nextMark bed1) (claimed (.claimed .one) [partOf .marked])) = some .none_ ∧
    ((after (exec (.marked bed1 1) (claimed (.claimed .one) [partOf .issued]))).map fun t => t.custodyOf h0) =
      some (some (.worked .one)) ∧
    answer (exec (.markFailed bed1 1) (claimed (.claimed .one) [{ partOf .issued with attempts := 2 }])) =
      some (.ok, .markState .failed) ∧
    code (exec (.cutDone bed1 1) (claimed (.worked .one) [partOf .issued])) = some .unmarked := by decide +kernel

/-- R82: 9,500 cm² of scrap of a 14 mm plate at 7.85 is a skeleton of 105 kg. -/
theorem test_cut_return_leaves_the_skeleton :
    answer (exec (.return_ bed1 h0 ⟨0, [], 1, 1⟩) { claimed (.worked .one) [] with
        claims := ⟨some { nestOf [{ partOf .marked with area := 350500, cut := true }] with area := 360000 }, none⟩ }) =
      some (.ok, .cutReturn [] 105) := by decide +kernel

theorem test_release_of_a_worked_plate :
    ((after (exec (.release bed1 h0) (claimed (.worked .one) []))).map fun t =>
      (t.claims.one, (t.recordOf h0).map fun r => (r.custody, r.incomplete, r.quarantine))) =
      some (none, some (.rest, true, true)) := by decide +kernel

theorem test_sessions :
    code (exec (.contourDone bed1 1) (withSession hall .stopping heldByHall)) = some .ok ∧
    code (exec (.parked bed1 2) (withSession hall .parking heldByHall)) = some .late ∧
    ((after (exec (.parked bed1 1) (withSession hall .parking heldByHall))).map fun t => t.quiesce.one.state) =
      some .quiesced := by decide +kernel

theorem test_recalled_plate :
    ((after (exec (.yield bed1 h0) (withRecall (claimed (.claimed .one) []) 2))).map fun t =>
      (t.claims.one, t.entry 2)) = some (none, none) ∧
    ((after (exec (.refuse bed1 h0) (withRecall (claimed (.claimed .one) []) 2))).map fun t =>
      (t.claims.one.isSome, t.entry 2)) = some (true, none) := by decide +kernel

theorem test_consumables_changed :
    ((after (exec (.consumablesChanged bed1)
        { hall with consumables := ⟨⟨9, 9, 3, .hold⟩, freshConsumable⟩ })).map fun t => t.consumables.one) =
      some ⟨0, 0, 0, .ok⟩ := by decide +kernel

theorem test_new_orders :
    code (exec (.move (crane1 1) (.stack 0) 1 (.stack 1)) (put manned 0 plate (.stack 0))) = some .accepted ∧
    code (exec (.move (crane1 1) (.stack 0) 1 (.stack 1)) manned) = some .notTop ∧
    code (exec (.skeleton (crane1 1) 1 0) manned) = some .notTop ∧
    code (exec (.travel (crane1 1) 60000) manned) = some .accepted := by decide +kernel

theorem test_position_report_follows_the_crane :
    ((after (exec (.at_ (crane1 1) (-5)) manned)).map fun t => (t.runway.one.lastX, t.runway.one.span)) =
      some (some 0, some ⟨.rest, ⟨0, 7500⟩⟩) := by decide +kernel

theorem test_picked_and_landed :
    ((after (exec (.picked (crane1 1) 1 1) (lifting .pickup))).map fun t =>
      (t.hook .one, t.pile 0, t.custodyOf h0)) = some ([h0], [], some (.carried .one)) ∧
    ((after (exec (.landed (crane1 1) 1 37500 14000) (loaded .carry))).map fun t =>
      (t.hook .one, t.pile 1, t.custodyOf h0, t.orderAt 2)) = some ([], [h0], some .rest, none) := by decide +kernel

theorem test_halt_resume_abandon_redirect :
    code (exec (.halt (crane1 1) 1) (lifting .pickup)) = some .ok ∧
    code (exec (.resume (crane1 1) 1) (lifting .halted)) = some .ok ∧
    code (exec (.abandon (crane1 1) 1) (loaded .carry)) = some .loaded ∧
    code (exec (.redirect (crane1 1) 1 (.stack 2)) (loaded .carry)) = some .accepted := by decide +kernel

theorem test_unknown_request_kind : code (exec (.unknownRequestKind (office 1) 58) hall) = some .format := by
  decide +kernel

/-! ### The hypotheses of the statements are met

One theorem for each statement that has hypotheses, clause by clause, on the small states above. -/

/-- An order at age 2 whose class tick is at hand stands at its tick. -/
theorem atItsTick_of_order {s : State} {e : Nat} {k : TimeoutClass} {o : Order} {m : Timer} (now : s.hallTime = s.nextTick.get k)
    (unseen : e ∉ s.ticked.get k) (live : s.orderAt e = some o) (timed : o.timer = some m) (old : 2 ≤ m.age)
    (cls : (k = .wait ∧ o.stage = .reserving) ∨ (k = .travel ∧ (o.stage = .pickup ∨ o.stage = .carry))) : AtItsTick s e k :=
  ⟨now, unseen, .inr (.inl ⟨o, m, live, timed, old, cls⟩)⟩

/-- A bed's session at age 2, at a tick of ANSWER. -/
theorem atItsTick_of_bed {s : State} {m : Timer} (b : Bed) (now : s.hallTime = s.nextTick.get .answer)
    (unseen : b.number - 1 ∉ s.ticked.get .answer)
    (timed : (s.quiesce.get b).state = .stopping ∨ (s.quiesce.get b).state = .parking)
    (live : (s.quiesce.get b).timer = some m) (old : 2 ≤ m.age) : AtItsTick s (b.number - 1) .answer :=
  ⟨now, unseen, .inl ⟨b, m, rfl, rfl, timed, live, old⟩⟩

/-- An order under whose span the other bed does not lie waits for the bed that names it alone. -/
theorem waitsOnlyFor_of {s : State} {b : Bed} {e : Nat} {o : Order} {w : Sweep}
    (active : s.activeOrder o.crane = some (e, o) ∧ o.stage = .reserving ∧ o.redirect = none ∧ o.spanHeld = true ∧
      (s.quiesce.get b).holders.order.get o.crane = some o.tag)
    (free : (s.quiesce.get b.other).holders.order.get o.crane ≠ some o.tag) (figures : o.sweep = some w)
    (clear : s.bedUnder b.other w.span = false) : WaitsOnlyFor s b e o := by
  refine ⟨active.1, active.2.1, active.2.2.1, active.2.2.2.1, active.2.2.2.2, fun h => ?_⟩
  rcases h with h | ⟨v, hv, hu⟩
  · exact absurd h free
  · rw [figures] at hv; cases hv; rw [clear] at hu; cases hu

theorem entry_of_hall (e : Nat) : hall.entry e = none := by
  unfold State.entry
  split
  · by_cases h : e - 2 < Config.sharedCount
    · simp [hall, State.reset, h]
    · rw [Vector.getElem?_eq_none (by omega)]; rfl
  · rfl

theorem slot_of_hall (i : Nat) : hall.slot i = ⟨0, none⟩ := by
  unfold State.slot
  by_cases h : i < Config.slotCount
  · simp [hall, State.reset, h]
  · rw [Vector.getElem?_eq_none (by omega)]; rfl

theorem gradeCount_of_hall (g : Nat) : hall.gradeCount g = 0 := by
  simp [State.gradeCount, slot_of_hall]

theorem witness_IdleStepsRunWhatIsOwed :
    (hall.pending = [] ∧ hall.restartOwed = false) ∧
    (({ hall with restartOwed := true } : State).pending = [] ∧ ({ hall with restartOwed := true } : State).restartOwed = true) ∧
    hall.ready (office 1) .office .run := by
  decide +kernel

/-- R181, log 3: the millisecond before an order's third tick queues its expiry before the tick. -/
theorem test_idle_step_before_a_tick :
    (match step { withOrder hall 7 { ride .carry with timer := some ⟨2⟩ } with hallTime := hall.nextTick.get .travel - 1 } with
      | .next t => t.pending.filter fun i => i = .orderExpiry 7 ∨ i = .classTick .travel
      | _ => []) = [.orderExpiry 7, .classTick .travel] := by
  decide +kernel

theorem witness_RequestChecksAnswerInOrder :
    requestOf (.unknownRequestKind (office 1) 15) = some (office 1, .unknown 15) ∧
    (requestOf (.nextMark (office 1)) = some (office 1, .nextMark) ∧ RequestKind.nextMark.allowedOn .office = false) ∧
    (requestOf (.hallHold (office 1)) = some (office 1, .hallHold) ∧ RequestKind.hallHold.allowedOn .office = true ∧
      State.reset.linkUp .office = false) ∧
    (requestOf (.hello { office 1 with status := 255 } 1 0) = some ({ office 1 with status := 255 }, .hello) ∧
      RequestKind.hello.allowedOn .office = true) ∧
    (desk.linkUp .office = true ∧ RequestKind.hallHold.takenIn desk.part = false) ∧
    (hall.linkUp .office = true ∧ RequestKind.hallHold.takenIn hall.part = true ∧
      requestOf (.hallHold { office 1 with fits := false }) = some ({ office 1 with fits := false }, .hallHold)) := by
  decide +kernel

theorem witness_RequestChecksAnswerInOrder_known (c : Nat) : RequestKind.hallHold ≠ .unknown c ∧ RequestKind.hello ≠ .unknown c :=
  ⟨fun h => (nomatch h), fun h => (nomatch h)⟩

theorem witness_RefusedRequestsChangeNothing :
    requestOf (.clearFault (office 1) 3) = some (office 1, .clearFault) ∧
      code (exec (.clearFault (office 1) 3) hall) = some .range ∧ 7 ≤ Status.range.value := by
  decide +kernel

theorem witness_RequestChecksAnswerInOrder_handles :
    requestOf (.recall (office 1) h0) = some (office 1, .recall) ∧
    requestOf (.quarantineSet (office 1) ⟨512, 0⟩) = some (office 1, .quarantineSet) ∧
    handleOf (.quarantineSet (office 1) ⟨512, 0⟩) = some ⟨512, 0⟩ ∧
    handleOf (.quarantineSet (office 1) ⟨511, 64⟩) = some ⟨511, 64⟩ ∧
    handleOf (.quarantineSet (office 1) ⟨511, 63⟩) = some ⟨511, 63⟩ ∧
    RequestKind.quarantineSet.allowedOn .office = true ∧ hall.linkUp .office = true ∧ hall.part = .run ∧
    hall.recordOf ⟨511, 63⟩ = none := by
  decide +kernel

theorem entry_of_manned (e : Nat) : manned.entry e = none := entry_of_hall e

theorem witness_LinesFollowTheirConditions : LinesFollow manned ∧ ∃ t, step manned = .next t := by
  refine ⟨⟨fun b => ?_, fun c => ?_⟩, _, rfl⟩
  · constructor
    · intro h; cases b <;> exact absurd h (by decide)
    · rintro ⟨-, -, -, -, -, ⟨n, hn, -⟩, -⟩; cases b <;> exact absurd hn (by intro h; cases h)
  · constructor
    · intro _
      refine ⟨rfl, ?_, rfl, ?_, ?_, ?_, ?_⟩
      · cases c <;> decide
      · cases c <;> rfl
      · intro e g h; rw [entry_of_manned] at h; cases h
      · cases c <;> (intro h; cases h)
      · intro e o h; unfold State.orderAt at h; rw [entry_of_manned] at h; cases h
    · intro _; cases c <;> rfl

theorem witness_SpansStayApart : SpansApart manned ∧ ∃ t, step manned = .next t := by
  refine ⟨?_, _, rfl⟩
  intro v w hv hw
  cases hv; cases hw; decide

theorem witness_SessionsStayHeld :
    SessionsHeld (withSession hall .parking heldByHall) ∧ ∃ t, step { hall with pending := [.eStopAsserted] } = .next t := by
  refine ⟨?_, _, rfl⟩
  intro b; cases b <;> decide

theorem witness_CountsStayBounded : Bounded hall ∧ ∃ t, step hall = .next t := by
  refine ⟨⟨?_, ?_, ?_, ?_, ?_, ?_, ?_⟩, _, rfl⟩
  · intro l; rcases l with _ | b | c
    · decide
    · cases b <;> decide
    · cases c <;> decide
  · intro i; rw [slot_of_hall]; decide
  · intro b; cases b <;> decide
  · intro b n h; cases b <;> cases h
  · intro b; cases b <;> decide
  · intro b t h; cases b <;> cases h
  · intro e v h; rw [entry_of_hall] at h; cases h

theorem lanes_of_plan (n : Nat) (h : plan.inUse n = true) : n < 48 := by
  have hz : ∀ q ∈ plan.validZones, ∀ k ∈ q.2.kind.laneStacks, k < 48 := by decide +kernel
  unfold HallConfig.inUse at h
  rw [List.any_eq_true] at h
  obtain ⟨q, hq, hk⟩ := h
  refine hz q hq n ?_
  cases hkind : q.2.kind <;> rw [hkind] at hk <;> simp_all [ZoneKind.lists, ZoneKind.laneStacks]

theorem witness_EveryRecordStandsInOneList :
    Placed (put hall 0 plate .infeed) ∧ (put hall 0 plate .infeed).pending = [] ∧
      ∃ t, step (put hall 0 plate .infeed) = .next t := by
  refine ⟨⟨by decide +kernel, ?_, ?_⟩, rfl, _, rfl⟩
  · have hl : (put hall 0 plate .infeed).listed = [h0] := by decide +kernel
    intro h
    rw [hl]
    have hs : ∀ i, (put hall 0 plate .infeed).slot i = if i = 0 then ⟨1, some plate⟩ else hall.slot i := by
      intro i
      show (hall.setSlot 0 ⟨1, some plate⟩).slot i = _
      rw [State.slot_setSlot hall 0 i ⟨1, some plate⟩ (by decide)]
    unfold State.recordOf
    rw [hs]
    rcases h with ⟨i, g⟩
    by_cases hi : i = 0
    · subst hi
      by_cases hg : (1 : Nat) = g
      · subst hg; simp [h0]
      · simp [h0, hg, Ne.symm hg]
    · simp [h0, hi, slot_of_hall]
  · intro n h
    rcases h with h | h <;> exact lanes_of_plan n h

theorem witness_LatchesLinksAndConfigurationChangeByTheirCommands :
    ((after (exec (.start false false false) { hall with
        runway := ⟨{ startRunway with breach := some ⟨.idle, 0, 0⟩ }, startRunway⟩
        arcs := ⟨⟨none, some 3⟩, ⟨none, none⟩⟩ })).map fun t => (t.runway.one.breach, t.arcs.one.fault)) =
      some (none, none) := by
  decide +kernel

theorem witness_LatchesLinksAndConfigurationChangeByTheirCommands_links :
    (State.reset.linkUp .office = false ∧
      ((after (exec (.hello (office 1) 1 31) State.reset)).map fun t => t.linkUp .office) = some true) ∧
    (hall.linkUp .office = true ∧
      ((after (exec (.silenceExpiry .office) { hall with hallTime := 1001 })).map fun t => t.linkUp .office) = some false) ∧
    ((after (exec (.erase (office 1)) desk)).map fun t => t.committed.runway) = some 400000 ∧
    ((after (exec (.configBegin (office 1)) hall)).map fun t => t.part) = some .config := by
  decide +kernel

theorem witness_ReceiverHuntsForTheStartByte :
    ([] : List Byte).length ≤ 1600 ∧ (List.replicate 1600 (0 : Byte)).length ≤ 1600 :=
  ⟨Nat.zero_le _, by rw [List.length_replicate]⟩

def noticed : State :=
  { hall with links := { hall.links with office := { up with queue := [.faultCleared .one []], sending := some 255 } } }

theorem witness_NoticesLeaveInOrderWithTheirGap :
    (noticed.linkUp .office = true ∧ (noticed.links.get .office).queue = .faultCleared .one [] :: [] ∧
      (noticed.links.get .office).sending = some 255) ∧
    ∀ k, (Notice.faultCleared .one []).cls = some k → hall.mask.admits k = true := by
  refine ⟨by decide +kernel, fun k _ => ?_⟩
  cases k <;> rfl

def silent (s : State) : State := { s with hallTime := 1001 }

def heldRide : State := withSession (withOrder granted 2 (ride .reserving)) .parking heldByOne

def burnt (s : State) : State := { s with arcs := ⟨⟨some 0, none⟩, ⟨none, none⟩⟩ }

theorem witness_SilenceTakesTheLinkDown :
    (∀ l, (silent hall).linkUp l = true ∧ ((silent hall).links.get l).lastFrame = some 0 ∧
      (silent hall).committed.silenceLimit < ((silent hall).hallTime - 0).toNat) ∧
    (∀ n, (silent hall).claims.get .one = some n → (silent hall).recallOf n.plate = none) ∧
    ((silent (withRecall (claimed (.claimed .one) []) 2)).claims.get .one = some (nestOf []) ∧
      (silent (withRecall (claimed (.claimed .one) []) 2)).recallOf h0 = some (2, ⟨4, h0, .one, ⟨2⟩⟩)) ∧
    ((silent hall).quiesce.get .one).state = .running ∧
    (((silent (burnt (withSession hall .parking heldByHall))).quiesce.get .one).state = .parking ∧
      ((silent (burnt (withSession hall .stopping heldByHall))).quiesce.get .one).state = .stopping ∧
      ((silent (burnt hall)).arcs.get .one).rise ≠ none) ∧
    (((silent heldRide).quiesce.get .one).state = .parking ∧ ((silent heldRide).arcs.get .one).rise = none ∧
      ((silent heldRide).links.get .office).queue.length < 15 ∧ (silent heldRide).mask.fault = true) ∧
    (((silent (withSession (hall.setEntry 2 (some (.hold 1))) .stopping heldByHall)).quiesce.get .one).holders =
        { order := ⟨none, none⟩, hall := true } ∧
      (silent (withSession (hall.setEntry 2 (some (.hold 1))) .stopping heldByHall)).hold = some (2, 1)) ∧
    ((silent (lifting .pickup)).orderAt 2 = some (lift .pickup) ∧ (silent (loaded .carry)).orderAt 2 = some (lift .carry)) := by
  refine ⟨fun l => ?_, (fun n h => nomatch h), by decide +kernel, by decide +kernel, by decide +kernel, by decide +kernel,
    by decide +kernel, by decide +kernel⟩
  rcases l with _ | b | c
  · decide
  · cases b <;> decide
  · cases c <;> decide

theorem witness_SilenceTakesTheLinkDown_holders :
    WaitsOnlyFor (silent heldRide) .one 2 (ride .reserving) ∧
    (∀ c tag, ((silent heldRide).quiesce.get .one).holders.order.get c = some tag →
      ∃ e o, (silent heldRide).activeOrder c = some (e, o) ∧ o.tag = tag ∧ o.redirect = none) ∧
    ∀ o, (silent heldRide).orderAt 3 = some o → ¬WaitsOnlyFor (silent heldRide) .one 3 o := by
  refine ⟨waitsOnlyFor_of (w := way) (by decide +kernel) (by decide +kernel) rfl (by decide +kernel), fun c tag h => ?_,
    fun o h => ?_⟩
  · cases c
    · have : ((silent heldRide).quiesce.get .one).holders.order.get .one = some 1 := by decide +kernel
      rw [this] at h; cases h
      exact ⟨2, ride .reserving, by decide +kernel, rfl, rfl⟩
    · have : ((silent heldRide).quiesce.get .one).holders.order.get .two = none := by decide +kernel
      rw [this] at h; cases h
  · have : (silent heldRide).orderAt 3 = none := by decide +kernel
    rw [this] at h; cases h

theorem witness_EmergencyStopHaltsAndFreesTheHall :
    ((lifting .pickup).eStop = false ∧ (lifting .pickup).orderAt 2 = some (lift .pickup)) ∧
    ((lifting .halted).eStop = false ∧ (lifting .halted).orderAt 2 = some (lift .halted)) ∧
    ((lifting .queued).orderAt 2 = some (lift .queued) ∧ (lifting .reserving).orderAt 2 = some (lift .reserving) ∧
      (lift .reserving).redirect = none ∧ (lifting .pickup).orderAt 3 = none) ∧
    ({ lifting .halted with eStop := true } : State).eStop = true := by
  decide +kernel

def permitted (s : State) : State := { s with permit := ⟨true, false⟩ }

theorem witness_RisingEdgesWorkTheClaimOrLatchTheFault :
    (((permitted (claimed (.claimed .one) [])).arcs.get .one).rise = none ∧
      (permitted (claimed (.claimed .one) [])).permit.get .one = true ∧
      (permitted (claimed (.claimed .one) [])).claims.get .one = some (nestOf []) ∧
      (permitted (claimed (.claimed .one) [])).recordOf h0 = some { plate with custody := .claimed .one } ∧
      (permitted (claimed (.claimed .one) [])).recallOf h0 = none) ∧
    (permitted (withRecall (claimed (.claimed .one) []) 2)).recallOf h0 = some (2, ⟨4, h0, .one, ⟨2⟩⟩) ∧
    (∀ n, hall.claims.get .one = some n → hall.custodyOf n.plate ≠ some (.claimed .one)) ∧
    ((hall.arcs.get .one).rise = none ∧ hall.permit.get .one = false ∧ hall.claims.get .one = none) ∧
    ((withSession (lifting .pickup) .quiesced heldByOne).orderAt 2 = some (lift .pickup) ∧
      ((withSession (lifting .pickup) .quiesced heldByOne).quiesce.get .one).holders.order.get .one = some 1 ∧
      ((withSession (lifting .pickup) .quiesced heldByHall).quiesce.get .one).holders.order.get .one ≠ some 1) := by
  refine ⟨by decide +kernel, by decide +kernel, (fun n h => nomatch h), by decide +kernel, by decide +kernel⟩

def burning (t : Time) : State := { hall with hallTime := t, arcs := ⟨⟨some 0, none⟩, ⟨none, none⟩⟩ }

def waitingForTheEdge : State :=
  { burning 40 with quiesce := ⟨{ session .parking heldByHall with parked := true }, startQuiesce⟩ }

def waitingWithTheOther : State :=
  { waitingForTheEdge.setEntry 2 (some (.hold 1)) with
    quiesce := ⟨{ session .parking heldByHall with degraded := true }, session .quiesced heldByHall⟩ }

theorem witness_FallingEdgeChargesTheArc :
    (((burning 40).arcs.get .one).rise = some 0 ∧
      ((burning 40).committed.consumables.get .one).minArc ≤ ((burning 40).hallTime - 0).toNat) ∧
    (((burning 39).arcs.get .one).rise = some 0 ∧
      ((burning 39).hallTime - 0).toNat < ((burning 39).committed.consumables.get .one).minArc) ∧
    ((waitingForTheEdge.quiesce.get .one).state = .parking ∧ (waitingForTheEdge.quiesce.get .one).parked = true ∧
      (waitingForTheEdge.quiesce.get .one).holders = { order := ⟨none, none⟩, hall := true }) ∧
    ((waitingWithTheOther.quiesce.get .one).state = .parking ∧ (waitingWithTheOther.quiesce.get .one).degraded = true ∧
      waitingWithTheOther.hold = some (2, 1) ∧ (waitingWithTheOther.quiesce.get .two).state = .quiesced ∧
      (waitingWithTheOther.quiesce.get .two).holders.hall = true ∧
      (waitingWithTheOther.links.get .office).queue.length < 14) := by
  decide +kernel

theorem witness_BeaconShowsHoldWarnAndQuiesce : ({ hall with hallTime := 500 } : State).hallTime.toNat % 500 = 0 := by
  decide

def aRide : State := ticking .travel (withOrder granted 2 { ride .carry with timer := some ⟨2⟩ })

theorem witness_ClassTickAgesItsEntries :
    aRide.hallTime = aRide.nextTick.get .travel ∧ (∀ e, e ∈ [2] ↔ AtItsTick aRide e .travel) ∧ [2].Pairwise (· < ·) := by
  refine ⟨by decide +kernel, fun e => ⟨fun h => ?_, fun h => ?_⟩, by simp⟩
  · have : e = 2 := by simpa using h
    subst this
    exact atItsTick_of_order (m := ⟨2⟩) (by decide +kernel) (by decide +kernel)
      (show aRide.orderAt 2 = some { ride .carry with timer := some ⟨2⟩ } by decide +kernel) rfl (by decide) (.inr ⟨rfl, .inr rfl⟩)
  · rcases h.2.2 with ⟨b, m, -, hk, -⟩ | ⟨o, m, ho, -⟩ | ⟨c, -, hk, -⟩
    · cases hk
    · have : aRide.orders = [(2, { ride .carry with timer := some ⟨2⟩ })] := by decide +kernel
      have hm := State.mem_orders ho
      rw [this] at hm
      simp at hm
      simp [hm.1]
    · cases hk

/-- No entry is due where none is live. -/
theorem witness_ClassTickAgesItsEntries_none :
    (ticking .wait hall).hallTime = (ticking .wait hall).nextTick.get .wait ∧
      ∀ e, e ∈ [] ↔ AtItsTick (ticking .wait hall) e .wait := by
  refine ⟨rfl, fun e => ⟨fun h => (nomatch h), fun h => ?_⟩⟩
  have hn : (ticking .wait hall).entry e = none := entry_of_hall e
  rcases h.2.2 with ⟨b, m, -, hk, -⟩ | ⟨o, m, ho, -⟩ | ⟨c, -, hk, -⟩
  · cases hk
  · unfold State.orderAt at ho; rw [hn] at ho; cases ho
  · cases hk

theorem test_tick_of_each_kind_of_entry :
    ((after (exec (.classTick .answer) (ticking .answer (withRecall hall 2)))).map fun t => t.entry 2) = some none ∧
    ((after (exec (.classTick .wait) (ticking .wait (hall.setEntry 3 (some (.hold 1)))))).map fun t => t.entry 3) =
      some (some (.hold 1)) := by
  decide +kernel

def late (st : Stage) : Order := { ride st with timer := some ⟨2⟩ }
def lateRequest : Order := { late .reserving with spanHeld := false }

theorem witness_OrderExpiryHaltsOrBlocks :
    (AtItsTick (ticking .travel (withOrder granted 2 (late .pickup))) 2 .travel ∧
      AtItsTick (ticking .travel (withOrder granted 7 (late .carry))) 7 .travel) ∧
    (AtItsTick (ticking .wait (withOrder manned 2 lateRequest)) 2 .wait ∧
      (ticking .wait (withOrder manned 2 lateRequest)).orderAt 2 = some lateRequest ∧ lateRequest.redirect = none ∧
      lateRequest.spanHeld = false ∧ lateRequest.records = [] ∧
      (ticking .wait (withOrder manned 2 lateRequest)).hookLoaded .one = false ∧
      (ticking .wait (withOrder manned 2 lateRequest)).queuedOrder .one = none ∧
      ((ticking .wait (withOrder manned 2 lateRequest)).runway.get .two).request = none) ∧
    ∀ b, ((ticking .wait (withOrder manned 2 lateRequest)).quiesce.get b).holders.order.get .one ≠ some 1 := by
  refine ⟨⟨atItsTick_of_order (o := late .pickup) (m := ⟨2⟩) (by decide +kernel) (by decide +kernel) (by decide +kernel) rfl
      (by decide) (.inr ⟨rfl, .inl rfl⟩),
    atItsTick_of_order (o := late .carry) (m := ⟨2⟩) (by decide +kernel) (by decide +kernel) (by decide +kernel) rfl
      (by decide) (.inr ⟨rfl, .inr rfl⟩)⟩,
    ⟨atItsTick_of_order (o := lateRequest) (m := ⟨2⟩) (by decide +kernel) (by decide +kernel) (by decide +kernel) rfl (by decide)
      (.inl ⟨rfl, rfl⟩), by decide +kernel⟩, fun b => by cases b <;> decide +kernel⟩

theorem witness_RecallsEndByTheirBedOrTheirTime :
    (AtItsTick (ticking .answer (withRecall (claimed (.claimed .one) []) 2)) 2 .answer ∧
      (ticking .answer (withRecall (claimed (.claimed .one) []) 2)).recallOf h0 = some (2, ⟨4, h0, .one, ⟨2⟩⟩)) ∧
    ((withRecall (claimed (.claimed .one) []) 7).ready bed1 (.bed .one) .run ∧ h0.gen ≤ 63 ∧
      (withRecall (claimed (.claimed .one) []) 7).recordOf h0 = some { plate with custody := .claimed .one } ∧
      (withRecall (claimed (.claimed .one) []) 7).claims.get .one = some (nestOf []) ∧
      (withRecall (claimed (.claimed .one) []) 7).recallOf h0 = some (7, ⟨4, h0, .one, ⟨2⟩⟩)) := by
  refine ⟨⟨⟨by decide +kernel, by decide +kernel, .inr (.inr ⟨⟨4, h0, .one, ⟨2⟩⟩, by decide +kernel, rfl, by decide⟩)⟩,
    by decide +kernel⟩, by decide +kernel⟩

theorem witness_SessionsEndTheirStopsInTime :
    (AtItsTick (ticking .answer (withSession hall .stopping heldByHall)) (Bed.number .one - 1) .answer ∧
      ((ticking .answer (withSession hall .stopping heldByHall)).quiesce.get .one).state = .stopping) ∧
    (withSession hall .stopping heldByHall).ready bed1 (.bed .one) .run ∧
    ((hall.quiesce.get .one).state ≠ .stopping ∧ ((withSession hall .stopping heldByHall).quiesce.get .one).session ≠ 2) := by
  refine ⟨⟨atItsTick_of_bed (m := ⟨2⟩) .one (by decide +kernel) (by decide +kernel) (.inl (by decide +kernel)) (by decide +kernel)
    (by decide), by decide +kernel⟩, by decide +kernel, by decide +kernel⟩

theorem witness_SessionsEndTheirStopsInTime_parking :
    (AtItsTick (ticking .answer (withSession hall .parking heldByHall)) (Bed.number .one - 1) .answer ∧
      ((ticking .answer (withSession hall .parking heldByHall)).quiesce.get .one).state = .parking ∧
      ((ticking .answer (withSession hall .parking heldByHall)).quiesce.get .one).holders =
        { order := ⟨none, none⟩, hall := true }) ∧
    (AtItsTick (ticking .answer heldRide) (Bed.number .one - 1) .answer ∧
      ((ticking .answer heldRide).quiesce.get .one).state = .parking ∧
      (ticking .answer heldRide).orders = [(2, ride .reserving)] ∧ (ride .reserving).records = [] ∧
      (ticking .answer heldRide).hookLoaded .one = false ∧
      ((ticking .answer heldRide).quiesce.get .one).holders.order.get .one = some 1 ∧
      ((ticking .answer heldRide).runway.get .two).request = none ∧ (ticking .answer heldRide).mask.crane = true ∧
      ((ticking .answer heldRide).links.get .office).queue.length < 14) := by
  refine ⟨⟨atItsTick_of_bed (m := ⟨2⟩) .one (by decide +kernel) (by decide +kernel) (.inr (by decide +kernel)) (by decide +kernel)
    (by decide), by decide +kernel⟩, ⟨atItsTick_of_bed (m := ⟨2⟩) .one (by decide +kernel) (by decide +kernel)
    (.inr (by decide +kernel)) (by decide +kernel) (by decide), by decide +kernel⟩⟩

theorem witness_HelloBringsItsLinkUp :
    (office 1).status = 0 ∧ (office 1).fits = true ∧ hall.linkUp (office 1).link = true ∧
    State.reset.linkUp (office 1).link = false ∧ State.reset.linkUp bed1.link = false ∧
    State.reset.linkUp (crane1 1).link = false ∧ 2 ≠ roleOf .office := by
  decide +kernel

theorem witness_StatusAnswersTheHall :
    hall.linkUp (office 1).link = true ∧ desk.linkUp (crane1 1).link = true ∧ (office 1).status = 0 ∧
      (office 1).fits = true := by
  decide

theorem witness_QueryAnswersRecordsAndPlaces :
    (hall.linkUp bed1.link = true ∧ bed1.status = 0 ∧ bed1.fits = true) ∧
    (((put hall 0 plate (.stack 47)).slot 0).content = some plate ∧ ((put hall 0 plate (.stack 47)).slot 0).gen ≤ 63) ∧
    (hall.slot 511).content = none ∧ hall.recordOf ⟨511, 63⟩ = none ∧ ¬((512 : Nat) ≤ 511 ∨ (63 : Nat) < 63) ∧
    (put hall 0 plate (.stack 47)).recordOf ⟨0, 63⟩ = none := by
  decide +kernel

theorem witness_QueryAnswersOrdersCranesAndBeds :
    ((lifting .pickup).linkUp bed1.link = true ∧ (lifting .pickup).findOrder ⟨.one, 1⟩ = some (2, lift .pickup)) ∧
    (∀ e o, (lifting .pickup).orderAt e = some o → o.crane = .two → o.tag ≠ 1) ∧
    (withRecall hall 2).recalls.find? (fun p => p.2.tag = 4) = some (2, ⟨4, h0, .one, ⟨2⟩⟩) ∧
    ((hall.setEntry 3 (some (.hold 1))).hold = some (3, 1) ∧
      ∀ q ∈ (hall.setEntry 3 (some (.hold 1))).recalls, q.2.tag ≠ 1) ∧
    (((withSession hall .stopping heldByHall).quiesce.get .one).state ≠ .running ∧
      ((withSession hall .stopping heldByHall).quiesce.get .one).session = 1) := by
  refine ⟨by decide +kernel, State.forall_orders (by decide +kernel), by decide +kernel, by decide +kernel, by decide +kernel⟩

theorem witness_PositionsDecodeToPlaces :
    plan.zoneAt 15000 = some (1, ⟨true, 15000, 60000, .stacking 4 2000 34000 [0, 1, 2, 3]⟩) ∧
    plan.zoneAt 59999 = some (1, ⟨true, 15000, 60000, .stacking 4 2000 34000 [0, 1, 2, 3]⟩) ∧
    (2000 + 31999 < 34000 ∧ 3 * (34000 - 2000) ≤ 31999 * 4 ∧ 31999 * 4 < (3 + 1) * (34000 - 2000)) ∧
    plan.zoneAt 180000 = none ∧ plan.zoneAt 0 = some (0, ⟨true, 0, 15000, .infeed⟩) ∧
    plan.zoneAt 169999 = some (7, ⟨true, 162000, 170000, .scrap⟩) ∧
    plan.zoneAt 60000 = some (2, ⟨true, 60000, 66000, .park⟩) ∧
    plan.zoneAt 66000 = some (3, ⟨true, 66000, 90000, .station .one .a⟩) := by
  decide +kernel

def full : State := { hall with slots := Vector.replicate _ ⟨1, some plate⟩ }

theorem full_is_full (i : Nat) (h : i < 512) : (full.slot i).content ≠ none := by
  have : i < Config.slotCount := h
  simp [full, State.slot, this]

theorem witness_RegisterPutsAPlateOnTheInfeed :
    (hall.ready (office 1) .office .run ∧ (hall.committed.grade 0).valid = true ∧ textOk 12 ['K'] = true ∧
      (put hall 0 plate .infeed).infeed.length < 2 ∧ ((put hall 0 plate .infeed).slot 1).content = none ∧
      ((put hall 0 plate .infeed).slot 0).content ≠ none ∧ (put hall 0 plate .infeed).ready (office 1) .office .run ∧
      ({ hall with slots := hall.slots.setIfInBounds 0 ⟨63, none⟩ }.slot 0) = ⟨63, none⟩) ∧
    ((hall.committed.grade 15).valid = false ∧ textOk 12 [] = false) ∧
    2 ≤ (put (put hall 0 plate .infeed) 1 plate .infeed).infeed.length ∧
    (full.infeed.length < 2 ∧ ∀ i, i < 512 → (full.slot i).content ≠ none) := by
  refine ⟨by decide +kernel, by decide +kernel, by decide +kernel, by decide +kernel, full_is_full⟩

def stacked : State := put hall 0 plate (.stack 0)

/-- A length and a thickness at the ends of their ranges. -/
def thicken : EditArg := { heat := none, grade := none, length := some 200, width := none, thickness := some 120 }

theorem witness_RecordsAreEditedFlaggedAndRetired :
    (stacked.ready (office 1) .office .run ∧ h0.gen ≤ 63 ∧ stacked.recordOf h0 = some plate ∧
      stacked.contentsOk thicken.grade thicken.heat thicken.length thicken.width thicken.thickness = true ∧
      plate.custody = .rest ∧ plate.booking = none) ∧
    (∀ n t, stacked.stackOf h0 = some n → thicken.thickness = some t →
      ((stacked.pile n).map stacked.thicknessOf).sum - plate.thickness + t +
        ((stacked.orders.filterMap (·.2.inbound)).filter (·.place = .stack n)).foldr (·.thickness + ·) 0 ≤
          (stacked.committed.stack n).heightLimit) ∧
    (put hall 0 { plate with custody := .claimed .one } (.station .one .a)).recordOf h0 =
      some { plate with custody := .claimed .one } := by
  refine ⟨by decide +kernel, fun n t hn ht => ?_, by decide +kernel⟩
  have hs : stacked.stackOf h0 = some 0 := by decide +kernel
  rw [hs] at hn
  cases hn; cases ht
  decide +kernel

theorem witness_RecordsAreEditedFlaggedAndRetired_retire :
    stacked.ready (office 1) .office .run ∧ h0.gen ≤ 63 ∧ stacked.recordOf h0 = some plate ∧ plate.custody = .rest ∧
      plate.booking = none ∧ plate.waitSlot = none ∧
      (put hall 0 { plate with booking := some ⟨.one, 1⟩ } (.stack 0)).recordOf h0 =
        some { plate with booking := some ⟨.one, 1⟩ } := by
  decide +kernel

def calm : State := claimed (.claimed .one) []

theorem calm_ready :
    calm.ready (office 255) .office .run ∧ 255 ∉ calm.officeTags ∧ calm.recalls.length < 2 ∧ calm.entry 2 = none ∧
      calm.recordOf h0 = some { plate with custody := .claimed .one } := by
  decide +kernel

theorem nothing_below_two {s : State} (d : Nat) (h : 2 ≤ d) (k : d < 2) : s.entry d ≠ none := absurd k (by omega)

theorem witness_RecallFollowsItsChecksAndTheCustody :
    (calm.ready (office 255) .office .run ∧ 255 ∉ calm.officeTags ∧ calm.recalls.length < 2 ∧ calm.entry 2 = none ∧
      calm.recordOf h0 = some { plate with custody := .claimed .one } ∧ calm.claims.get .one = some (nestOf []) ∧
      calm.recallOf h0 = none ∧ calm.linkUp (.bed .one) = true) ∧
    (∀ d, 2 ≤ d → d < 2 → calm.entry d ≠ none) ∧
    stacked.recordOf h0 = some plate ∧ (loaded .carry).recordOf h0 = some { plate with custody := .carried .one } ∧
    (claimed (.worked .one) []).recordOf h0 = some { plate with custody := .worked .one } ∧
    ((withRecall calm 2).recallOf h0 ≠ none ∧ (withRecall calm 2).recalls.length < 2 ∧
      (withRecall calm 2).entry 3 = none ∧ (withRecall calm 2).entry 2 ≠ none) ∧
    { calm with links := ⟨up, ⟨startLink, up⟩, ⟨up, up⟩⟩ }.linkUp (.bed .one) = false := by
  refine ⟨by decide +kernel, nothing_below_two, by decide +kernel, by decide +kernel, by decide +kernel, by decide +kernel,
    by decide +kernel⟩

def crowded (v : Entry) : State := { hall with shared := Vector.replicate _ (some v) }

theorem crowded_is_crowded (v : Entry) (e : Nat) (h : 2 ≤ e) (k : e ≤ 7) : (crowded v).entry e ≠ none := by
  have : e - 2 < Config.sharedCount := by simp [Config.sharedCount]; omega
  simp [State.entry, crowded, h, this]

theorem witness_RecallFollowsItsChecksAndTheCustody_refused :
    (hall.ready (office 0) .office .run ∧ hall.ready (office 256) .office .run) ∧
    (4 ∈ (withRecall hall 2).officeTags ∧ (withRecall hall 2).ready (office 4) .office .run) ∧
    (1 ∉ (hall.setEntry 2 (some (.hold 2))).officeTags ∧ (hall.setEntry 2 (some (.hold 2))).hold ≠ none) ∧
    (2 ≤ (withRecall (withRecall hall 2) 7).recalls.length) ∧
    ((crowded (.order (ride .queued))).hold = none ∧ (crowded (.order (ride .queued))).recalls.length < 2 ∧
      255 ∉ (crowded (.order (ride .queued))).officeTags) ∧
    ∀ e, 2 ≤ e → e ≤ 7 → (crowded (.order (ride .queued))).entry e ≠ none := by
  refine ⟨by decide +kernel, by decide +kernel, by decide +kernel, by decide +kernel, by decide +kernel,
    crowded_is_crowded _⟩

def nested (m : MarkState) : State := claimed (.worked .one) [partOf m]

theorem witness_WaiveMarkLetsThePartBeCut :
    (∀ m, (nested m).ready (office 1) .office .run ∧
      (nested m).recordOf h0 = some { plate with custody := .worked .one } ∧
      (nested m).claims.get .one = some (nestOf [partOf m]) ∧ (nestOf [partOf m]).parts[0]? = some (partOf m)) ∧
    (nestOf [partOf .pending]).parts.length < 2 := by
  refine ⟨fun m => by cases m <;> decide +kernel, by decide⟩

theorem witness_HallHoldStopsTheHallUntilItsRelease :
    ((lifting .pickup).ready (office 1) .office .run ∧ 1 ∉ (lifting .pickup).officeTags ∧ (lifting .pickup).hold = none ∧
      (lifting .pickup).entry 3 = none ∧ (lifting .pickup).entry 2 ≠ none ∧
      (lifting .pickup).orderAt 2 = some (lift .pickup)) ∧
    (∀ b, ((lifting .pickup).quiesce.get b).state = .running ∧ (lifting .pickup).linkUp (.bed b) = true) ∧
    ((withSession (hall.setEntry 2 (some (.hold 1))) .quiesced heldByHall).hold = some (2, 1) ∧
      (withSession (hall.setEntry 2 (some (.hold 1))) .quiesced heldByHall).ready (office 1) .office .run ∧
      ((withSession (hall.setEntry 2 (some (.hold 1))) .quiesced heldByHall).quiesce.get .one).holders =
        { order := ⟨none, none⟩, hall := true }) := by
  refine ⟨by decide +kernel, fun b => by cases b <;> decide +kernel, by decide +kernel⟩

/-- Both bed links DOWN. -/
def unmanned : State := { hall with links := ⟨up, ⟨startLink, startLink⟩, ⟨up, up⟩⟩ }

theorem witness_HallHoldStopsTheHallUntilItsRelease_down :
    (unmanned.ready (office 255) .office .run ∧ 255 ∉ unmanned.officeTags ∧ unmanned.hold = none ∧ unmanned.entry 2 = none ∧
      unmanned.mask.fault = true ∧ (unmanned.links.get .office).queue.length < 14) ∧
    ∀ b, (unmanned.quiesce.get b).state = .running ∧ (unmanned.quiesce.get b).holders = noHolders ∧
      unmanned.linkUp (.bed b) = false ∧ (unmanned.arcs.get b).rise = none := by
  refine ⟨by decide +kernel, fun b => by cases b <;> decide +kernel⟩

def faulty : State := { withOrder hall 2 { lift .halted with causes := { noCauses with arcFault := true } } with
  arcs := ⟨⟨none, some 3⟩, ⟨some 5, none⟩⟩ }

theorem witness_ClearFaultFreesItsOrders :
    faulty.ready (office 1) .office .run ∧ (faulty.arcs.get .two).rise ≠ none ∧
    ((faulty.arcs.get .one).rise = none ∧ (faulty.arcs.get .one).fault ≠ none ∧
      faulty.orderAt 2 = some { lift .halted with causes := { noCauses with arcFault := true } }) ∧
    ((hall.arcs.get .one).rise = none ∧ (hall.arcs.get .one).fault = none) := by
  decide +kernel

/-- Crane 1 idle at x, its REST span still where it was. -/
def strayed (x : Nat) : State :=
  { manned with runway :=
    ⟨{ manned.runway.one with lastX := some x, breach := some ⟨.idle, x, 5⟩ }, manned.runway.two⟩ }

/-- Crane 1 out of its order's corridor, at x. -/
def astray (x : Nat) : State :=
  { withOrder granted 2 (ride .halted) with
    runway := ⟨{ granted.runway.one with lastX := some x, breach := some ⟨.corridor, x, 5⟩ }, granted.runway.two⟩ }

theorem witness_ClearBreachWidensTheSpan :
    (hall.ready (office 1) .office .run ∧ (hall.runway.get .one).breach = none) ∧
    ((strayed 40000).ready (office 1) .office .run ∧ ((strayed 40000).runway.get .one).breach ≠ none ∧
      ((strayed 40000).runway.get .one).lastX = some 40000 ∧ (strayed 40000).grantedOrder .one = none ∧
      ((strayed 40000).runway.get .one).span = some ⟨.rest, ⟨22500, 37500⟩⟩ ∧
      ((strayed 40000).runway.get .two).span = some ⟨.rest, ⟨142500, 157500⟩⟩ ∧
      (strayed 40000).extentInterval .one 40000 = ⟨32500, 47500⟩) ∧
    ((strayed 134999).extentInterval .one 134999 = ⟨127499, 142499⟩ ∧
      (strayed 135000).extentInterval .one 135000 = ⟨127500, 142500⟩) ∧
    ((astray 85000).ready (office 1) .office .run ∧ ((astray 85000).runway.get .one).breach ≠ none ∧
      (astray 85000).grantedOrder .one = some (2, ride .halted) ∧ (ride .halted).sweep = some way ∧
      ((astray 85000).runway.get .one).span = some ⟨.move, ⟨0, 90000⟩⟩ ∧
      (astray 85000).extentInterval .one 85000 = ⟨77500, 92500⟩ ∧
      ((astray 85000).runway.get .one).request = none ∧ ((astray 85000).runway.get .two).request = none) ∧
    ((astray 85000).bedUnder .one ⟨0, 92500⟩ = true ∧
      ¬((astray 85000).holdsBed (ride .halted) .one = true ∧ ((astray 85000).quiesce.get .one).state = .quiesced)) ∧
    (∀ b, (withSession (astray 85000) .quiesced heldByOne).bedUnder b ⟨0, 92500⟩ = true →
      (withSession (astray 85000) .quiesced heldByOne).holdsBed (ride .halted) b = true ∧
        ((withSession (astray 85000) .quiesced heldByOne).quiesce.get b).state = .quiesced) := by
  refine ⟨by decide +kernel, by decide +kernel, by decide +kernel, by decide +kernel, by decide +kernel,
    fun b => by cases b <;> decide +kernel⟩

/-- The order in crane 1's straying that gave its span up and kept BREACH. -/
def givenUp : Order :=
  { lift .halted with
    remembered := .reserving, sweep := none, spanHeld := false, causes := { noCauses with breach := true, timeout := true } }

theorem witness_ClearBreachWidensTheSpan_ofAGivenUpOrder :
    (withOrder (strayed 40000) 2 givenUp).grantedOrder .one = none ∧
      (withOrder (strayed 40000) 2 givenUp).orderAt 2 = some givenUp ∧ (withOrder (strayed 40000) 2 givenUp).orderAt 3 = none ∧
      ((withOrder (strayed 40000) 2 givenUp).runway.get .one).request = none ∧
      ((withOrder (strayed 40000) 2 givenUp).runway.get .two).request = none ∧
      ∀ e o, (strayed 40000).orderAt e = some o → o.crane = .one → o.causes.breach = false := by
  refine ⟨by decide +kernel, by decide +kernel, by decide +kernel, by decide +kernel, by decide +kernel,
    State.forall_orders (by decide +kernel)⟩

theorem gradeChecks_of_desk : desk.gradeChecks plan = none := by
  unfold State.gradeChecks
  have : (List.range Config.gradeCount).find? (fun g => desk.gradeCount g ≠ 0 && !(plan.grade g).valid) = none := by
    rw [List.find?_eq_none]
    intro g _ h
    have hz : desk.gradeCount g = 0 := gradeCount_of_hall g
    rw [hz] at h
    exact absurd h (by simp)
  rw [this]; rfl

theorem validation_of_desk : desk.validation desk.staged = none := by
  have hz : plan.zoneChecks = none := by decide +kernel
  have hp : desk.placeChecks plan = none := by decide +kernel
  have h1 : desk.craneChecks plan .one = none := by decide +kernel
  have h2 : desk.craneChecks plan .two = none := by decide +kernel
  show desk.validation plan = none
  unfold State.validation
  rw [hz, hp, gradeChecks_of_desk, h1, h2]; rfl

theorem witness_ConfigurationIsStagedThenCommitted :
    (desk.ready (office 1) .office .config ∧ hall.ready (office 1) .office .run) ∧
    ((∀ e, hall.entry e = none) ∧ ∀ b, (hall.quiesce.get b).state = .running ∧ hall.claims.get b = none) ∧
    ((withOrder hall 2 (ride .queued)).entry 2 ≠ none ∧ calm.claims.get .one ≠ none) ∧
    desk.validation desk.staged = none ∧
    ({ desk with staged := defaultConfig } : State).validation defaultConfig =
      some { code := .range, check := 1, part := some 4, object := none } := by
  refine ⟨by decide +kernel, ⟨entry_of_hall, fun b => by cases b <;> decide⟩, by decide +kernel, validation_of_desk,
    by decide +kernel⟩

theorem witness_ConfigWritesStageTheirItem :
    desk.ready (office 1) .office .config ∧
    ((∀ n ∈ [0, 1, 2, 47], n < 48) ∧ [0, 1, 2, 47].Nodup ∧ textOk 8 ['A'] = true) ∧
    (∀ j q, (desk.slot j).content = some q → q.grade ≠ 15) ∧
    (((put desk 0 plate .infeed).slot 0).content = some plate ∧
      (put desk 0 plate .infeed).committed.grade 0 ≠ ⟨true, ['A'], 785⟩ ∧
      (put desk 0 plate .infeed).committed.grade 0 = ⟨true, ['S', '3', '5', '5'], 785⟩) := by
  refine ⟨by decide, by decide, fun j q h => ?_, by decide +kernel⟩
  have hs : desk.slot j = ⟨0, none⟩ := slot_of_hall j
  rw [hs] at h; cases h

theorem witness_AcceptedConfigurationIsSound : desk.validation plan = none := validation_of_desk

theorem witness_EraseForgetsTheHall : desk.ready (office 1) .office .config := by decide

/-- Crane 2's order holds bed 1, or nothing, with a span over station 1 A. -/
def overhead (held : HolderSet) : State :=
  withSession (withOrder granted 2 { ride .carry with crane := .two, tag := 7 }) .quiesced held

def heldBySeven : HolderSet := { order := ⟨none, some 7⟩, hall := false }

theorem witness_BedSelectsItsStationAndRenewsItsTorch :
    (calm.ready bed1 (.bed .one) .run ∧ calm.claims.get .one ≠ none) ∧
    (hall.ready bed1 (.bed .one) .run ∧ hall.claims.get .one = none) ∧
    (∀ e o w, (overhead heldBySeven).orderAt e = some o → o.spanHeld = true → o.sweep = some w →
      (overhead heldBySeven).stationUnder .one .a w.span = true →
      ((overhead heldBySeven).quiesce.get .one).holders.order.get o.crane = some o.tag) ∧
    ((overhead heldByHall).orderAt 2 = some { ride .carry with crane := .two, tag := 7 } ∧
      (overhead heldByHall).stationUnder .one .a way.span = true ∧
      ((overhead heldByHall).quiesce.get .one).holders.order.get .two ≠ some 7) ∧
    ((burning 40).ready bed1 (.bed .one) .run ∧ ((burning 40).arcs.get .one).rise ≠ none ∧
      (hall.arcs.get .one).rise = none) := by
  refine ⟨by decide +kernel, by decide +kernel, fun e o w ho _ _ _ => ?_, by decide +kernel,
    by decide +kernel⟩
  have : (overhead heldBySeven).orders = [(2, { ride .carry with crane := .two, tag := 7 })] := by decide +kernel
  have hm := State.mem_orders ho
  rw [this] at hm
  simp at hm
  rw [hm.2]
  decide +kernel

def resting : State := put hall 0 plate (.station .one .a)

def declared : NestArg :=
  { name := ['N'], count := 2, parts := [⟨['A'], 1, .mark⟩, ⟨['B'], 359999, .noMark⟩], countAgain := 2 }

theorem witness_ClaimTakesTheSolePlate :
    (resting.ready bed1 (.bed .one) .run ∧ h0.gen ≤ 63 ∧ resting.recordOf h0 = some plate) ∧
    (calm.claims.get .one = some (nestOf []) ∧ (nestOf []).plate = h0) ∧
    (resting.claims.get .one = none ∧ resting.activeRecords .one = [h0] ∧
      (resting.station .one (resting.active.get .one)).skeleton = false) ∧
    (∀ e o i, resting.orderAt e = some o → o.inbound = some i → i.place ≠ .station .one (resting.active.get .one)) ∧
    (declared.countAgain = declared.count ∧ declared.parts.length = declared.count ∧ textOk 16 declared.name = true ∧
      (∀ p ∈ declared.parts, textOk 16 p.mark = true ∧ 1 ≤ p.area ∧ p.area ≤ 960000 ∧ p.mode ≠ .other) ∧
      (declared.parts.map (·.mark)).Nodup ∧
      (declared.parts.map (·.area)).sum = plate.length * plate.width / 100) ∧
    ¬([⟨['A'], 1, .mark⟩, ⟨['A'], 2, .mark⟩].map PartArg.mark).Nodup ∧
    (h0 ∉ stacked.activeRecords .one ∧ stacked.recordOf h0 = some plate) ∧
    ((resting.setStation .one .a { records := [h0], skeleton := true, skeletonMass := 9 }).station .one .a).skeleton = true ∧
    ((put resting 1 plate (.station .one .a)).activeRecords .one ≠ [h0] ∧
      h0 ∈ (put resting 1 plate (.station .one .a)).activeRecords .one) ∧
    ((put hall 0 { plate with booking := some ⟨.one, 1⟩ } (.station .one .a)).activeRecords .one = [h0] ∧
      (put hall 0 { plate with quarantine := true } (.station .one .a)).activeRecords .one = [h0]) := by
  refine ⟨by decide +kernel, by decide +kernel, by decide +kernel, fun e o i ho _ => ?_,
    by decide +kernel, by decide, by decide +kernel, by decide +kernel, by decide +kernel, by decide +kernel⟩
  have : resting.orders = [] := by decide +kernel
  have hm := State.mem_orders ho
  rw [this] at hm; cases hm

def marking (m : MarkState) (attempts : Nat) : State :=
  claimed (.claimed .one) [partOf .marked, { partOf m with attempts := attempts }]

theorem witness_NestPartsAreMarkedThenCut :
    (∀ m, (marking m 1).ready bed1 (.bed .one) .run ∧
      (marking m 1).claims.get .one = some (nestOf [partOf .marked, { partOf m with attempts := 1 }]) ∧
      (marking m 1).recordOf h0 = some { plate with custody := .claimed .one } ∧ (marking m 1).eStop = false ∧
      ((marking m 1).quiesce.get .one).state = .running ∧ (marking m 1).recallOf h0 = none ∧
      (nestOf [partOf .marked, { partOf m with attempts := 1 }]).parts[1]? = some { partOf m with attempts := 1 }) ∧
    ({ marking .issued 1 with eStop := true } : State).eStop = true ∧
    ((withSession (marking .issued 1) .parking heldByHall).quiesce.get .one).state ≠ .running ∧
    (∀ j u, j < 1 → (nestOf [partOf .marked, { partOf .issued with attempts := 1 }]).parts[j]? = some u →
      u.state ≠ .issued ∧ u.state ≠ .pending) ∧
    (∀ u ∈ (nestOf [partOf .marked, { partOf .pending with attempts := 1 }]).parts, u.state ≠ .issued) ∧
    (∀ u ∈ (nestOf [partOf .marked, { partOf .failed with attempts := 3 }]).parts, u.state ≠ .pending) ∧
    (marking .issued 2).claims.get .one = some (nestOf [partOf .marked, { partOf .issued with attempts := 2 }]) ∧
    (claimed (.worked .one) [partOf .issued]).recordOf h0 = some { plate with custody := .worked .one } := by
  refine ⟨fun m => by cases m <;> decide +kernel, by decide +kernel, by decide +kernel, fun j u hj hu => ?_, by decide,
    by decide, by decide +kernel, by decide +kernel⟩
  have : j = 0 := by omega
  subst this
  cases hu
  decide

theorem witness_ReleaseGivesThePlateBack :
    (calm.ready bed1 (.bed .one) .run ∧ calm.claims.get .one = some (nestOf []) ∧ (nestOf []).plate.gen ≤ 63 ∧
      calm.recordOf h0 = some { plate with custody := .claimed .one } ∧ plate.waitSlot = none ∧ calm.recallOf h0 = none ∧
      (calm.quiesce.get .one).state ≠ .stopping) ∧
    ((claimed (.worked .one) [partOf .marked]).recordOf h0 = some { plate with custody := .worked .one } ∧
      ∀ v ∈ (nestOf [partOf .marked]).parts, v.cut = false) ∧
    ((withSession calm .stopping heldByHall).quiesce.get .one).state = .stopping ∧
    ((put calm 1 plate .infeed).recordOf h1 = some plate ∧ h1 ≠ h0 ∧ h1.gen ≤ 63) := by
  decide +kernel

def fromRest (lo hi : Nat) : Sweep :=
  { extent := 6000, span := ⟨lo, hi⟩, corridor := ⟨lo + 6000, hi - 6000⟩ }

/-- Crane 1's MOVE from bed 1's station, waiting for the claimed plate. -/
def awaiting : Order :=
  { newOrder .one 1 .move (some (.station .one .a)) 1 (.place (.stack 1)) with
    stage := .reserving, records := [h0], sweep := some way }

def besides (w : Sweep) : Order := { awaiting with sweep := some w }

/-- The plate in bed 1's claim with that order in its wait slot; crane 2's span from x on. -/
def awaited (x : Nat) (o : Order) : State :=
  withOrder { put hall 0 { plate with custody := .claimed .one, waitSlot := some ⟨.one, 1⟩ } (.station .one .a) with
    claims := ⟨some (nestOf []), none⟩
    runway := ⟨manned.runway.one, { manned.runway.two with span := some ⟨.rest, ⟨x, 157500⟩⟩ }⟩ } 2 o

theorem witness_ReleaseGivesThePlateBack_toAWaitingOrder :
    (∀ x ∈ [90000, 90001], (awaited x awaiting).ready bed1 (.bed .one) .run ∧
      (awaited x awaiting).claims.get .one = some (nestOf []) ∧ h0.gen ≤ 63 ∧
      (awaited x awaiting).recordOf h0 = some { plate with custody := .claimed .one, waitSlot := some ⟨.one, 1⟩ } ∧
      (awaited x awaiting).recallOf h0 = none ∧ (awaited x awaiting).findOrder ⟨.one, 1⟩ = some (2, awaiting) ∧
      (awaited x awaiting).activeOrder .one = some (2, awaiting) ∧
      (awaited x awaiting).liftable (.station .one .a) 1 = [h0] ∧
      ((awaited x awaiting).runway.get .one).span = some ⟨.rest, ⟨22500, 37500⟩⟩ ∧
      ((awaited x awaiting).runway.get .two).span = some ⟨.rest, ⟨x, 157500⟩⟩ ∧
      ((awaited x awaiting).runway.get .two).request = none) ∧
    (∀ d, (awaited 90001 (besides (fromRest 22500 65999))).bedUnder d ⟨22500, 65999⟩ = false ∧
      ((awaited 90001 (besides (fromRest 22500 65999))).quiesce.get d).holders.order.get .one ≠ some 1) ∧
    ((put (awaited 90001 { awaiting with records := [h0, h1] }) 1 { plate with booking := some ⟨.two, 3⟩ }
      (.station .one .a)).recordOf h1 = some { plate with booking := some ⟨.two, 3⟩ }) ∧
    ((awaited 90001 { awaiting with source := some (.stack 0) }).liftable (.stack 0) 1 = [] ∧
      ((awaited 90001 awaiting).links.get (.crane .one)).queue.length < 14) ∧
    ((∀ d p, (awaited 90001 { awaiting with source := some (.stack 0) }).orderAt d = some p → p.stage ≠ .queued) ∧
      ∀ d p, (awaited 90001 { awaiting with source := some (.stack 0) }).orderAt d = some p → p.crane = .one → d = 2) := by
  refine ⟨by decide +kernel, fun d => by cases d <;> decide +kernel, by decide +kernel, by decide +kernel,
    State.forall_orders (by decide +kernel), State.forall_orders (by decide +kernel)⟩

def cutPart : Part := { partOf .marked with cut := true }
def rects : List Rect := [⟨0, 0, 2000, 3000⟩, ⟨2000, 0, 500, 300⟩]

theorem witness_CutReturnTurnsThePlateIntoRemnants :
    ((claimed (.worked .one) [cutPart]).ready bed1 (.bed .one) .run ∧
      (claimed (.worked .one) [cutPart]).claims.get .one = some (nestOf [cutPart]) ∧
      (claimed (.worked .one) [cutPart]).recordOf h0 = some { plate with custody := .worked .one } ∧
      (∃ v ∈ (nestOf [cutPart]).parts, v.cut = true) ∧ rects.length ≤ 2) ∧
    (∀ x ∈ rects, hall.committed.minLength ≤ x.l ∧ 1 ≤ x.l ∧ x.l ≤ 20000 ∧ hall.committed.minWidth ≤ x.w ∧ 1 ≤ x.w ∧
      x.w ≤ 4800 ∧ x.x ≤ 20000 ∧ x.y ≤ 4800 ∧ x.x + x.l ≤ plate.length ∧ x.y + x.w ≤ plate.width) ∧
    rects.Pairwise (fun x y => x.x + x.l ≤ y.x ∨ y.x + y.l ≤ x.x ∨ x.y + x.w ≤ y.y ∨ y.y + y.w ≤ x.y) ∧
    rects.length ≤ (claimed (.worked .one) [cutPart]).freeSlots.length + 1 ∧
    (nestOf [cutPart]).area = 360000 ∧
    (((nestOf [cutPart]).parts.filter (·.cut)).map (·.area)).sum = 100000 ∧
    (rects.map fun x => x.l * x.w / 100).sum = 61500 ∧
    [h0] = (claimed (.worked .one) [cutPart]).activeRecords .one ∧
    360000 < (((nestOf [{ cutPart with area := 298501 }]).parts.filter (·.cut)).map (·.area)).sum + 61500 := by
  refine ⟨by decide +kernel, by decide, by decide, by decide +kernel, by decide, by decide, by decide, by decide +kernel,
    by decide⟩

def heldByBoth : HolderSet := { order := ⟨some 1, some 7⟩, hall := true }

/-- Bed 1 in PARKING held by an order of each crane and the hall hold, bed 2 QUIESCED for the hall hold, degraded. -/
def crowdedBed : State :=
  { (withOrder (withOrder granted 2 (ride .reserving)) 3 { ride .reserving with crane := .two, tag := 7 }).setEntry 4
      (some (.hold 1)) with
    quiesce := ⟨{ session .parking heldByBoth with degraded := true }, session .quiesced heldByHall⟩ }

theorem witness_ParkedQuietsTheBed :
    (heldRide.ready bed1 (.bed .one) .run ∧ (heldRide.quiesce.get .one).state = .parking ∧
      (heldRide.quiesce.get .one).session = 1) ∧
    (hall.quiesce.get .one).state ≠ .parking ∧
    ((burnt heldRide).arcs.get .one).rise ≠ none ∧
    ((heldRide.arcs.get .one).rise = none ∧ (withSession hall .parking heldByHall).ready bed1 (.bed .one) .run ∧
      ((withSession hall .parking heldByHall).quiesce.get .one).holders = { order := ⟨none, none⟩, hall := true }) ∧
    (crowdedBed.ready bed1 (.bed .one) .run ∧ (crowdedBed.quiesce.get .one).state = .parking ∧
      (crowdedBed.arcs.get .one).rise = none ∧ crowdedBed.hold = some (4, 1) ∧
      (crowdedBed.links.get .office).queue.length < 15 ∧ (crowdedBed.links.get (.crane .one)).queue.length < 15 ∧
      (crowdedBed.links.get (.crane .two)).queue.length < 15) := by
  decide +kernel

theorem witness_ParkedQuietsTheBed_holders :
    (∀ c tag, (crowdedBed.quiesce.get .one).holders.order.get c = some tag →
      ∃ e o, crowdedBed.activeOrder c = some (e, o) ∧ o.tag = tag ∧ o.redirect = none) ∧
    WaitsOnlyFor crowdedBed .one 2 (ride .reserving) ∧
    WaitsOnlyFor crowdedBed .one 3 { ride .reserving with crane := .two, tag := 7 } ∧
    ∀ o, crowdedBed.orderAt 4 = some o → ¬WaitsOnlyFor crowdedBed .one 4 o := by
  refine ⟨fun c tag h => ?_, waitsOnlyFor_of (w := way) (by decide +kernel) (by decide +kernel) rfl (by decide +kernel),
    waitsOnlyFor_of (w := way) (by decide +kernel) (by decide +kernel) rfl (by decide +kernel), fun o h => ?_⟩
  · cases c
    · have : (crowdedBed.quiesce.get .one).holders.order.get .one = some 1 := by decide +kernel
      rw [this] at h; cases h
      exact ⟨2, ride .reserving, by decide +kernel, rfl, rfl⟩
    · have : (crowdedBed.quiesce.get .one).holders.order.get .two = some 7 := by decide +kernel
      rw [this] at h; cases h
      exact ⟨3, { ride .reserving with crane := .two, tag := 7 }, by decide +kernel, rfl, rfl⟩
  · have : crowdedBed.orderAt 4 = none := by decide +kernel
    rw [this] at h; cases h

theorem witness_RecallsEndByTheirBedOrTheirTime_yield :
    (calm.ready bed1 (.bed .one) .run ∧ h0.gen ≤ 63 ∧ calm.recordOf h0 = some { plate with custody := .claimed .one } ∧
      calm.recallOf h0 = none) ∧
    (∀ n, resting.claims.get .one = some n → n.plate ≠ h0) ∧
    ((withRecall calm 2).claims.get .one = some (nestOf []) ∧
      (withRecall calm 2).recallOf h0 = some (2, ⟨4, h0, .one, ⟨2⟩⟩) ∧ plate.waitSlot = none ∧
      ((withRecall calm 2).quiesce.get .one).state ≠ .stopping) := by
  refine ⟨by decide +kernel, (fun n h => nomatch h), by decide +kernel⟩

/-! The cranes. -/

theorem witness_NewOrdersQueueBehindTheActive :
    ((lifting .pickup).ready (crane1 255) (.crane .one) .run ∧ (lifting .pickup).activeOrder .one ≠ none ∧
      255 ∉ (lifting .pickup).craneTags .one ∧ ((lifting .pickup).craneTags .one).length < 2 ∧
      (lifting .pickup).entry 3 = none) ∧
    (∀ d, 2 ≤ d → d < 3 → (lifting .pickup).entry d ≠ none) ∧
    1 ∈ (lifting .pickup).craneTags .one ∧
    2 ≤ ((withOrder (lifting .pickup) 3 { ride .queued with tag := 2 }).craneTags .one).length ∧
    (∀ h ∈ (lifting .pickup).hook .one, (lifting .pickup).custodyOf h ≠ some (.orphaned .one)) ∧
    (∃ h ∈ (put (lifting .pickup) 1 { plate with custody := .orphaned .one } (.hook .one)).hook .one,
      (put (lifting .pickup) 1 { plate with custody := .orphaned .one } (.hook .one)).custodyOf h =
        some (.orphaned .one)) ∧
    (∀ d o, (put (lifting .pickup) 1 { plate with custody := .orphaned .one } (.hook .one)).orderAt d = some o →
      o.crane = .one → ¬(o.kind = .move ∧ o.source = some (.hook .one))) ∧
    (placeOfArg (.stack 0) = some (.stack 0) ∧ placeOfArg (.station 2 1) = some (.station .two .b)) := by
  refine ⟨by decide +kernel, fun d h k => ?_, by decide +kernel, by decide +kernel, by decide +kernel, by decide +kernel,
    State.forall_orders (by decide +kernel), by decide +kernel⟩
  have : d = 2 := by omega
  subst this; decide +kernel

/-- Crane 1 without an order, an ORPHANED plate on its hook. -/
def hungOver : State := put manned 0 { plate with custody := .orphaned .one } (.hook .one)

/-- The order table without a free entry. -/
def noEntry : State := { manned with shared := Vector.replicate _ (some (.hold 9)) }

/-- Out of range, no free entry, and the hook of an idle crane. -/
theorem witness_NewOrdersQueueBehindTheActive_idle :
    (∀ tag ∈ [0, 256], manned.ready (crane1 tag) (.crane .one) .run) ∧
    (placeOfArg (.stack 47) = some (.stack 47) ∧ placeOfArg (.stack 48) = none ∧ placeOfArg (.hook 3) = none) ∧
    (noEntry.ready (crane1 1) (.crane .one) .run ∧ noEntry.craneTags .one = [] ∧
      ∀ d, 2 ≤ d → d ≤ 7 → noEntry.entry d ≠ none) ∧
    (hungOver.ready (crane1 1) (.crane .one) .run ∧ hungOver.craneTags .one = [] ∧ hungOver.entry 2 = none ∧
      hungOver.activeOrder .one = none ∧ (∃ h ∈ hungOver.hook .one, hungOver.custodyOf h = some (.orphaned .one)) ∧
      (newOrder .one 1 .move (some (.stack 0)) 1 (.place (.stack 1))).source ≠ some (.hook .one)) ∧
    ∀ d p, hungOver.orderAt d = some p → p.crane = .one → ¬(p.kind = .move ∧ p.source = some (.hook .one)) := by
  refine ⟨by decide +kernel, by decide, ⟨by decide +kernel, by decide +kernel, fun d h k => ?_⟩, by decide +kernel,
    State.forall_orders (by decide +kernel)⟩
  rw [show noEntry.entry d = (noEntry.shared[d - 2]?).getD none by simp [State.entry, h],
    show noEntry.shared[d - 2]? = some (some (.hold 9)) by
      have : d - 2 < 6 := by omega
      simp [noEntry, this]]
  simp

def fresh : State := put (put hall 0 plate (.stack 0)) 1 { plate with booking := some ⟨.two, 3⟩ } (.stack 0)

def aMove : Order :=
  { newOrder .one 255 .move (some (.stack 0)) 2 (.place (.stack 1)) with records := (fresh.pile 0).reverse.take 2 }

theorem witness_NewOrdersAreAcceptedWhole :
    (fresh.ready (crane1 255) (.crane .one) .run ∧ fresh.activeOrder .one = none ∧ 255 ∉ fresh.craneTags .one ∧
      (fresh.craneTags .one).length < 2 ∧ fresh.entry 2 = none ∧
      ∀ h ∈ fresh.hook .one, fresh.custodyOf h ≠ some (.orphaned .one)) ∧
    fresh.acceptance (fresh.withRecords (newOrder .one 255 .move (some (.stack 0)) 4 (.place (.stack 1)))) = some .notTop ∧
    ((fresh.runway.get .one).lastX = none ∧
      fresh.acceptance (newOrder .one 255 .travel none 0 (.x 60000)) = none) ∧
    (hall.setStation .one .b { records := [], skeleton := true, skeletonMass := 105 }).acceptance
      (newOrder .one 255 .skeleton (some (.station .one .b)) 0 (.place .scrap)) = none ∧
    ((fresh.pile 0).Nodup ∧ fresh.acceptance aMove = none) := by
  decide +kernel

theorem witness_TravelIsGrantedItsSpan :
    (manned.ready (crane1 255) (.crane .one) .run ∧ manned.craneTags .one = [] ∧ manned.entry 2 = none ∧
      manned.hook .one = [] ∧ (manned.committed.cranes.get .one).tare ≤ (manned.committed.cranes.get .one).swl ∧
      (manned.runway.get .one).lastX = some 30000 ∧ (manned.runway.get .one).span = some ⟨.rest, ⟨22500, 37500⟩⟩ ∧
      (manned.runway.get .two).span = some ⟨.rest, ⟨142500, 157500⟩⟩ ∧ manned.eStop = false ∧ manned.hold = none ∧
      (manned.runway.get .two).request = none) ∧
    (widen 180000 30000 (clamp 180000 58499) 7500 = ⟨22500, 65999⟩ ∧ widen 180000 30000 58499 1500 = ⟨28500, 59999⟩) ∧
    ((∀ b, manned.bedUnder b ⟨22500, 65999⟩ = false) ∧ manned.bedUnder .one ⟨22500, 66000⟩ = true) ∧
    (∀ b, (manned.quiesce.get b).holders.order.get .one = none) ∧
    (widen 180000 30000 (clamp 180000 135000) 7500 = ⟨22500, 142500⟩ ∧ (142500 : Nat) ≤ 157500) := by
  refine ⟨by decide +kernel, by decide, ⟨fun b => by cases b <;> decide +kernel, by decide +kernel⟩,
    fun b => by cases b <;> decide +kernel, by decide⟩

theorem witness_PositionReportsMoveTheSpanOrBreach :
    (manned.ready (crane1 1) (.crane .one) .run ∧ manned.activeOrder .one = none ∧ (manned.runway.get .one).breach = none ∧
      (manned.runway.get .one).request = none ∧ (manned.runway.get .two).request = none ∧
      (manned.runway.get .two).span = some ⟨.rest, ⟨142500, 157500⟩⟩) ∧
    (manned.extentInterval .one (clamp manned.committed.runway 134999) = ⟨127499, 142499⟩ ∧
      manned.extentInterval .one (clamp manned.committed.runway 135000) = ⟨127500, 142500⟩) ∧
    (clamp 180000 (-1) = 0 ∧ clamp 180000 180001 = 180000) ∧
    ((withOrder granted 2 (ride .carry)).ready (crane1 1) (.crane .one) .run ∧
      (withOrder granted 2 (ride .carry)).grantedOrder .one = some (2, ride .carry) ∧
      (ride .carry).sweep = some way ∧ way.corridor.hi = 80000 ∧ clamp 180000 80000 = 80000 ∧ clamp 180000 80001 = 80001 ∧
      ((withOrder granted 2 (ride .carry)).runway.get .one).breach = none) := by
  decide +kernel

def skeletonOrder (st : Stage) : Order :=
  { newOrder .one 1 .skeleton (some (.station .one .b)) 0 (.place .scrap) with
    stage := st, remembered := .pickup, skeleton := .booked, sweep := some { way with extent := 10000 }, spanHeld := true }

def scrapAt : State := withOrder (granted.setStation .one .b { records := [], skeleton := true, skeletonMass := 105 }) 2
  (skeletonOrder .pickup)

theorem witness_PickedPutsTheLoadOnTheHook :
    ((lifting .pickup).ready (crane1 1) (.crane .one) .run ∧
      (lifting .pickup).activeOrder .one = some (2, lift .pickup) ∧
      (withOrder (lifting .pickup) 2 { lift .halted with remembered := .pickup }).activeOrder .one =
        some (2, { lift .halted with remembered := .pickup })) ∧
    ((lift .pickup).records = ((lifting .pickup).pile 0).reverse.take 1 ∧ 1 ≤ ((lifting .pickup).pile 0).length ∧
      ((lifting .pickup).pile 0).Nodup ∧ (lifting .pickup).hungSkeleton .one = none ∧
      (∀ h ∈ (lift .pickup).records, h = h0) ∧
      (lifting .pickup).recordOf h0 = some { plate with booking := some ⟨.one, 1⟩ } ∧
      3200 + ((lift .pickup).records.map (lifting .pickup).massOf).sum ≤ 16000 ∧
      extentOf ((lift .pickup).records.map (lifting .pickup).lengthOf) 6000 ≤ way.extent) ∧
    (scrapAt.activeOrder .one = some (2, skeletonOrder .pickup) ∧ scrapAt.hook .one = [] ∧
      scrapAt.ready (crane1 1) (.crane .one) .run ∧
      (scrapAt.committed.cranes.get .one).tare + (scrapAt.station .one .b).skeletonMass ≤
        (scrapAt.committed.cranes.get .one).swl ∧ max 10000 (scrapAt.committed.cranes.get .one).halfLength ≤ 10000) := by
  decide +kernel

/-- An order HALTED that remembers CARRY. -/
def paused (o : Order) : Order := { o with stage := .halted, remembered := .carry }

def toDone : State := withOrder granted 2 (ride .carry)

theorem witness_LandedSetsTheLoadDown :
    ((loaded .carry).ready (crane1 1) (.crane .one) .run ∧ (loaded .carry).activeOrder .one = some (2, lift .carry) ∧
      (loaded .carry).hook .one ≠ [] ∧ (lift .carry).skeleton = .none ∧
      (loaded .carry).committed.placeAt (clamp 180000 37500) 14000 = some (.stack 1) ∧
      (loaded .carry).inboundBy (.stack 1) (some (lift .carry).ref) = false ∧
      (way.corridor.lo ≤ 37500 ∧ 37500 ≤ way.corridor.hi) ∧
      ((loaded .carry).pile 1).length + ((loaded .carry).hook .one).length ≤
        ((loaded .carry).committed.stack 1).countLimit ∧
      (((loaded .carry).pile 1).map (loaded .carry).thicknessOf).sum +
        (((loaded .carry).hook .one).map (loaded .carry).thicknessOf).sum ≤
          ((loaded .carry).committed.stack 1).heightLimit) ∧
    ((loaded .carry).orders = [(2, lift .carry)] ∧ (lift .carry).records = (loaded .carry).hook .one ∧
      (loaded .carry).recordOf h0 = some { plate with custody := .carried .one } ∧
      ((loaded .carry).runway.get .two).request = none) ∧
    (loaded .carry).committed.placeAt (clamp 180000 60000) 14000 = none ∧
    (toDone.ready (crane1 1) (.crane .one) .run ∧ toDone.activeOrder .one = some (2, ride .carry) ∧
      toDone.orders = [(2, ride .carry)] ∧ (ride .carry).records = [] ∧ (ride .carry).skeleton = .none ∧
      (toDone.runway.get .one).breach = none ∧ (toDone.runway.get .two).request = none ∧
      (toDone.runway.get .two).span = some ⟨.rest, ⟨142500, 157500⟩⟩ ∧
      toDone.extentInterval .one (clamp 180000 60000) = ⟨52500, 67500⟩) := by
  decide +kernel

theorem witness_CraneHaltsResumesAndAbandons :
    ((lifting .pickup).ready (crane1 9) (.crane .one) .run ∧
      (lifting .pickup).activeOrder .one = some (2, lift .pickup)) ∧
    (∀ d p, (lifting .reserving).activeOrder .one = some (d, p) → p.tag = 1 → p.stage = .reserving) ∧
    ((withOrder manned 2 (paused (ride .halted))).activeOrder .one = some (2, paused (ride .halted)) ∧
      (paused (ride .halted)).stage = .halted ∧ (paused (ride .halted)).remembered = .carry ∧
      (paused (ride .halted)).causes = noCauses) ∧
    ((withOrder manned 2 { ride .halted with causes := { noCauses with misplaced := true } }).activeOrder .one =
      some (2, { ride .halted with causes := { noCauses with misplaced := true } })) ∧
    ((loaded .carry).findOrder ⟨.one, 1⟩ = some (2, lift .carry) ∧ (loaded .carry).hook .one ≠ []) ∧
    (withOrder manned 2 (ride .queued)).findOrder ⟨.one, 1⟩ = some (2, ride .queued) := by
  refine ⟨by decide +kernel, fun d p h _ => ?_, by decide +kernel, by decide +kernel, by decide +kernel, by decide +kernel⟩
  have : (lifting .reserving).activeOrder .one = some (2, lift .reserving) := by decide +kernel
  rw [this] at h; cases h; rfl

def mine : Record := { plate with booking := some ⟨.one, 1⟩ }

/-- Crane 1 at stack 0 as its order ends, crane 2's span from x on. -/
def leaving (x : Nat) (o : Order) : State :=
  { withOrder (lifting .pickup) 2 o with runway := ⟨granted.runway.one,
      { granted.runway.two with span := some ⟨.rest, ⟨x, 157500⟩⟩ }⟩ }

theorem witness_CraneHaltsResumesAndAbandons_active :
    (∀ x ∈ [37500, 37501], ∀ o ∈ [lift .pickup, lift .halted, { lift .reserving with spanHeld := false }],
      (leaving x o).ready (crane1 9) (.crane .one) .run ∧ (leaving x o).activeOrder .one = some (2, o) ∧
      (leaving x o).findOrder ⟨.one, 1⟩ = some (2, o) ∧ (leaving x o).hookLoaded .one = false ∧
      (leaving x o).queuedOrder .one = none ∧ ((leaving x o).runway.get .two).request = none ∧
      (leaving x o).recordOf h0 = some mine ∧ ((leaving x o).runway.get .one).lastX = some 30000 ∧
      ((leaving x o).runway.get .one).breach = none ∧ (leaving x o).extentInterval .one 30000 = ⟨22500, 37500⟩ ∧
      ((leaving x o).runway.get .two).span = some ⟨.rest, ⟨x, 157500⟩⟩) ∧
    (((withSession (leaving 90001 (lift .pickup)) .quiesced heldByOne).quiesce.get .one).holders.order.get .one = some 1 ∧
      { heldByOne with order := heldByOne.order.set .one none } = noHolders ∧
      { heldByBoth with order := heldByBoth.order.set .one none } ≠ noHolders) ∧
    (({ leaving 90001 (lift .pickup) with runway := manned.runway.set .one startRunway } : State).runway.get .one).lastX = none ∧
    (({ leaving 90001 (lift .pickup) with
      runway := manned.runway.set .one { manned.runway.one with breach := some ⟨.corridor, 0, 0⟩ } } : State).runway.get
        .one).breach ≠ none ∧
    hall.findOrder ⟨.one, 1⟩ = none := by
  decide +kernel

/-- Crane 2's MOVE from stack 0, waiting for the plate that crane 1's order has booked. -/
def second (w : Sweep) : Order :=
  { newOrder .two 7 .move (some (.stack 0)) 1 (.place (.stack 1)) with
    stage := .reserving, records := [h0], sweep := some w }

def secondWaits (w : Sweep) : State :=
  withOrder (withOrder (put granted 0 { mine with waitSlot := some ⟨.two, 7⟩ } (.stack 0)) 2 (lift .pickup)) 3 (second w)

theorem witness_CraneHaltsResumesAndAbandons_served :
    (∀ w ∈ [way, fromRest 37501 157500],
      (secondWaits w).ready (crane1 9) (.crane .one) .run ∧ (secondWaits w).activeOrder .one = some (2, lift .pickup) ∧
      (secondWaits w).findOrder ⟨.one, 1⟩ = some (2, lift .pickup) ∧ (secondWaits w).hookLoaded .one = false ∧
      (secondWaits w).queuedOrder .one = none ∧
      (secondWaits w).recordOf h0 = some { mine with waitSlot := some ⟨.two, 7⟩ } ∧
      (secondWaits w).findOrder ⟨.two, 7⟩ = some (3, second w) ∧ (secondWaits w).activeOrder .two = some (3, second w) ∧
      (secondWaits w).liftable (.stack 0) 1 = [h0] ∧
      ((secondWaits w).runway.get .one).span = some ⟨.move, ⟨0, 90000⟩⟩ ∧
      ((secondWaits w).runway.get .two).span = some ⟨.rest, ⟨142500, 157500⟩⟩) ∧
    (((after (exec (.abandon (crane1 9) 1) (secondWaits way))).bind fun t => (t.runway.get .two).request) =
      some ⟨7, way⟩) ∧
    (((after (exec (.abandon (crane1 9) 1) (secondWaits (fromRest 37501 157500)))).bind fun t => t.orderAt 3).map
      (·.spanHeld)) = some true := by
  decide +kernel

/-- Crane 1 loaded at 30,000 mm, crane 2's span meeting its own at 90,000 mm. -/
def blocked (o : Order) : State :=
  { withOrder (loaded .carry) 2 o with runway := ⟨granted.runway.one,
      { granted.runway.two with span := some ⟨.rest, ⟨90000, 157500⟩⟩ }⟩ }

theorem witness_RedirectAsksForANewSpan :
    ((blocked (lift .carry)).ready (crane1 9) (.crane .one) .run ∧ (blocked (lift .carry)).activeOrder .one = some (2, lift .carry) ∧
      (blocked (paused (lift .carry))).activeOrder .one = some (2, paused (lift .carry)) ∧
      (blocked (lift .carry)).committed.inUse 2 = true ∧ (blocked (lift .carry)).hook .one ≠ [] ∧
      (blocked (lift .carry)).hasRoom (.stack 2) ((blocked (lift .carry)).hook .one).length
        ((((blocked (lift .carry)).hook .one).map (blocked (lift .carry)).thicknessOf).sum) none = true ∧
      (blocked (lift .carry)).hasRoom (.stack 1) ((blocked (lift .carry)).hook .one).length
        ((((blocked (lift .carry)).hook .one).map (blocked (lift .carry)).thicknessOf).sum) (some (lift .carry).ref) = true ∧
      (blocked (lift .carry)).closedTo (.stack 2) (some (lift .carry).ref) = false ∧
      ((blocked (lift .carry)).runway.get .one).lastX = some 30000 ∧
      ((blocked (lift .carry)).runway.get .one).span = some ⟨.move, ⟨0, 90000⟩⟩ ∧
      ((blocked (lift .carry)).runway.get .two).span = some ⟨.rest, ⟨90000, 157500⟩⟩) ∧
    ((blocked (lift .carry)).hookExtent .one = 6000 ∧ widen 180000 30000 37500 7500 = ⟨22500, 45000⟩ ∧
      (lift .carry).redirect = none) := by
  decide +kernel

/-! The checks of a new order, and its way to its stage. -/

/-- What the first check of R154 calls a bad pair of places, as the statement has it. -/
def unfit (s : State) (c : Crane) (p q : Place) : Prop :=
  p = q ∨ p = .scrap ∨ p = .hook c.other ∨ q = .infeed ∨ (∃ d, q = .hook d) ∨
    (p = .infeed ∧ ∀ i, i < 16 → (s.committed.zone i).valid = true → (s.committed.zone i).kind ≠ .infeed) ∨
    (q = .scrap ∧ ∀ i, i < 16 → (s.committed.zone i).valid = true → (s.committed.zone i).kind ≠ .scrap) ∨
    ∃ n, (p = .stack n ∨ q = .stack n) ∧ ∀ i lanes lo hi ls, i < 16 → (s.committed.zone i).valid = true →
      (s.committed.zone i).kind = .stacking lanes lo hi ls → n ∉ ls

theorem fit_on_the_plan (s : State) (h : s.committed = plan) : ¬unfit s .one (.stack 0) (.stack 1) := by
  have hz : (s.committed.zone 1).valid = true ∧ (s.committed.zone 1).kind = .stacking 4 2000 34000 [0, 1, 2, 3] := by
    rw [h]; decide +kernel
  rintro (h | h | h | h | ⟨d, h⟩ | ⟨h, -⟩ | ⟨h, -⟩ | ⟨n, h | h, hn⟩)
  · cases h
  · cases h
  · cases h
  · cases h
  · cases h
  · cases h
  · cases h
  · cases h; exact hn 1 4 2000 34000 [0, 1, 2, 3] (by omega) hz.1 hz.2 (by decide)
  · cases h; exact hn 1 4 2000 34000 [0, 1, 2, 3] (by omega) hz.1 hz.2 (by decide)

def toLift : State := put manned 0 plate (.stack 0)
def noRoomThere : State := put toLift 1 { plate with booking := some ⟨.two, 3⟩ } (.stack 1)
def tooHeavy : State := put manned 0 { plate with mass := 12801 } (.stack 0)
def waitedFor : State := put manned 0 { plate with booking := some ⟨.two, 3⟩, waitSlot := some ⟨.two, 4⟩ } (.stack 0)
def booked : State := put manned 0 { plate with booking := some ⟨.two, 3⟩ } (.stack 0)

/-- R154: the codes of the checks in their order, a MOVE of one plate from stack 0 to stack 1. -/
theorem test_checks_of_a_move :
    code (exec (.move (crane1 1) (.stack 0) 1 (.stack 0)) toLift) = some .badPlace ∧
    code (exec (.move (crane1 1) (.stack 0) 2 (.stack 1)) toLift) = some .notTop ∧
    code (exec (.move (crane1 1) (.stack 0) 1 (.stack 1)) noRoomThere) = some .noRoom ∧
    code (exec (.move (crane1 1) (.stack 0) 1 (.stack 1)) tooHeavy) = some .overload ∧
    code (exec (.move (crane1 1) (.stack 0) 1 (.stack 1)) waitedFor) = some .busy ∧
    code (exec (.move (crane1 1) (.stack 0) 1 (.stack 1)) booked) = some .accepted := by
  decide +kernel

theorem witness_NewOrdersAreCheckedInOrder :
    ((toLift.ready (crane1 255) (.crane .one) .run ∧ toLift.activeOrder .one = none ∧ 255 ∉ toLift.craneTags .one ∧
      (toLift.craneTags .one).length < 2 ∧ toLift.entry 2 = none ∧ toLift.hook .one = []) ∧
      (∀ s ∈ [toLift, noRoomThere, tooHeavy, waitedFor, booked], s.committed = plan ∧ s.orders = [])) ∧
    unfit toLift .one (.stack 0) (.stack 0) ∧
    ((toLift.listAt (.stack 0)).length < 2 ∧ ¬(toLift.listAt (.stack 0)).length < 1) ∧
    (h1 ∈ noRoomThere.listAt (.stack 1) ∧
      noRoomThere.recordOf h1 = some { plate with booking := some ⟨.two, 3⟩ } ∧ tooHeavy.listAt (.stack 1) = [] ∧
      (tooHeavy.pile 1).length + 1 ≤ (tooHeavy.committed.stack 1).countLimit ∧ tooHeavy.thicknessOf h0 ≤ 1000) ∧
    ((tooHeavy.committed.cranes.get .one).swl < (tooHeavy.committed.cranes.get .one).tare + tooHeavy.massOf h0 ∧
      (waitedFor.committed.cranes.get .one).tare + waitedFor.massOf h0 ≤ (waitedFor.committed.cranes.get .one).swl) ∧
    (waitedFor.recordOf h0 = some { plate with booking := some ⟨.two, 3⟩, waitSlot := some ⟨.two, 4⟩ } ∧
      booked.recordOf h0 = some { plate with booking := some ⟨.two, 3⟩ }) := by
  refine ⟨⟨by decide +kernel, ?_⟩, .inl rfl, by decide +kernel, by decide +kernel, by decide +kernel, by decide +kernel⟩
  intro s hs
  simp only [List.mem_cons, List.not_mem_nil, or_false] at hs
  rcases hs with rfl | rfl | rfl | rfl | rfl <;> exact ⟨rfl, by decide +kernel⟩

/-- Crane 1 idle with skeleton m on station 1 B. -/
def skeletonAt (m : Nat) : State := manned.setStation .one .b { records := [], skeleton := true, skeletonMass := m }

theorem witness_NewOrdersAreCheckedInOrder_skeleton :
    (manned.ready (crane1 255) (.crane .one) .run ∧ (manned.station .one .b).skeleton = false ∧
      (manned.committed.zone 7).valid = true ∧ (manned.committed.zone 7).kind = .scrap) ∧
    (∀ i, i < 16 → (defaultConfig.zone i).valid = true → (defaultConfig.zone i).kind ≠ .scrap) ∧
    (((skeletonAt 12800).station .one .b).skeleton = true ∧
      ¬((skeletonAt 12800).committed.cranes.get .one).swl < ((skeletonAt 12800).committed.cranes.get .one).tare + 12800 ∧
      ((skeletonAt 12801).committed.cranes.get .one).swl < ((skeletonAt 12801).committed.cranes.get .one).tare + 12801) ∧
    ((withOrder (skeletonAt 9) 2 { newOrder .two 7 .skeleton (some (.station .one .b)) 0 (.place .scrap) with
        stage := .reserving, skeleton := .booked }).orderAt 2 =
      some { newOrder .two 7 .skeleton (some (.station .one .b)) 0 (.place .scrap) with
        stage := .reserving, skeleton := .booked }) ∧
    (({ manned with committed := { plan with cranes := ⟨{ beam with swl := 3199 }, beam⟩ } } : State).committed.cranes.get
      .one).swl < beam.tare := by
  decide +kernel

def fetch : Order :=
  { newOrder .one 255 .move (some (.stack 0)) 1 (.place (.stack 1)) with records := [h0] }

def fetchToBed : Order :=
  { newOrder .one 255 .move (some (.stack 0)) 1 (.place (.station .one .a)) with records := [h0] }

/-- Crane 2's span reaching down to x. -/
def near (s : State) (x : Nat) : State :=
  { s with runway := s.runway.set .two { s.runway.two with span := some ⟨.rest, ⟨x, 157500⟩⟩ } }

theorem witness_NewOrdersAreGrantedTheirSpan :
    (toLift.ready (crane1 255) (.crane .one) .run ∧ toLift.activeOrder .one = none ∧ 255 ∉ toLift.craneTags .one ∧
      (toLift.craneTags .one).length < 2 ∧ toLift.entry 2 = none ∧ toLift.hook .one = [] ∧ toLift.acceptance fetch = none ∧
      fetch.records = (toLift.pile 0).reverse.take 1 ∧ fetch.records.Nodup ∧ (toLift.runway.get .one).lastX = some 30000 ∧
      (toLift.runway.get .one).span = some ⟨.rest, ⟨22500, 37500⟩⟩ ∧
      (toLift.runway.get .two).span = some ⟨.rest, ⟨142500, 157500⟩⟩) ∧
    (booked.acceptance fetch = none ∧ booked.recordOf h0 = some { plate with booking := some ⟨.two, 3⟩ }) ∧
    (extentOf ([h0].map toLift.lengthOf) 6000 = 6000 ∧ widen 180000 30000 37500 7500 = ⟨22500, 45000⟩ ∧
      (near toLift 45000).acceptance fetch = none) ∧
    ((toLift.runway.get .two).request = none ∧ ∀ b c, (toLift.quiesce.get b).holders.order.get c = none) ∧
    (∀ b, toLift.bedUnder b ⟨22500, 45000⟩ = false) ∧
    (toLift.acceptance fetchToBed = none ∧ widen 180000 30000 78000 7500 = ⟨22500, 85500⟩ ∧
      toLift.bedUnder .one ⟨22500, 85500⟩ = true ∧ (toLift.quiesce.get .one).state = .running ∧
      toLift.linkUp (.bed .one) = true) ∧
    (∀ b, (withSession toLift .quiesced heldByHall).bedUnder b ⟨22500, 85500⟩ = true →
      ((withSession toLift .quiesced heldByHall).quiesce.get b).state = .quiesced) := by
  refine ⟨by decide +kernel, by decide +kernel, by decide +kernel, ⟨by decide +kernel, fun b c => by cases b <;> cases c <;> decide +kernel⟩,
    fun b => by cases b <;> decide +kernel, by decide +kernel, fun b => by cases b <;> decide +kernel⟩

/-- The other sources: the crane's own hook, the infeed, a station, and a skeleton. -/
theorem witness_NewOrdersAreGrantedTheirSpan_sources :
    (put manned 0 { plate with custody := .orphaned .one } (.hook .one)).acceptance
      (newOrder .one 255 .move (some (.hook .one)) 1 (.place (.stack 1))) = none ∧
    (put manned 0 plate .infeed).acceptance
      { newOrder .one 255 .move (some .infeed) 1 (.place (.stack 1)) with records := [h0] } = none ∧
    (put manned 0 plate (.station .one .b)).acceptance
      { newOrder .one 255 .move (some (.station .one .b)) 1 (.place .scrap) with records := [h0] } = none ∧
    (skeletonAt 12800).acceptance (newOrder .one 255 .skeleton (some (.station .one .b)) 0 (.place .scrap)) = none := by
  decide +kernel

/-! PICKED of another count, and LANDED elsewhere. -/

/-- Crane 1 at stack 0, two plates booked. -/
def liftingTwo : State :=
  withOrder (put (put granted 0 mine (.stack 0)) 1 mine (.stack 0)) 2 { lift .pickup with count := 2, records := [h1, h0] }

def theirs : Order := { ride .reserving with crane := .two, tag := 7, kind := .move, records := [h1] }

/-- Crane 1 at stack 0, its plate above one that crane 2's order has booked. -/
def liftingTheirs : State :=
  withOrder (withOrder (put (put granted 1 { plate with booking := some ⟨.two, 7⟩ } (.stack 0)) 0 mine (.stack 0)) 2
    (lift .pickup)) 3 theirs

theorem witness_PickedCountsWhatHangs :
    (liftingTwo.ready (crane1 1) (.crane .one) .run ∧
      liftingTwo.activeOrder .one = some (2, { lift .pickup with count := 2, records := [h1, h0] }) ∧
      liftingTwo.listAt (.stack 0) = [h0, h1] ∧ [h1, h0] = (liftingTwo.listAt (.stack 0)).reverse.take 2 ∧
      [h1] = (liftingTwo.listAt (.stack 0)).reverse.take 1 ∧ liftingTwo.recordOf h0 = some mine ∧
      liftingTwo.recordOf h1 = some mine ∧ liftingTwo.hungSkeleton .one = none ∧
      (liftingTwo.runway.get .one).request = none) ∧
    (liftingTheirs.activeOrder .one = some (2, lift .pickup) ∧ liftingTheirs.listAt (.stack 0) = [h1, h0] ∧
      [h0, h1] = (liftingTheirs.listAt (.stack 0)).reverse.take 2 ∧
      liftingTheirs.recordOf h1 = some { plate with booking := some ⟨.two, 7⟩ } ∧ liftingTheirs.orderAt 3 = some theirs ∧
      theirs.ref = ⟨.two, 7⟩ ∧
      liftingTheirs.hasRoom (.stack 1) 2 (([h0, h1].map liftingTheirs.thicknessOf).sum) (some (lift .pickup).ref) = true ∧
      liftingTheirs.mask.crane = true ∧ (liftingTheirs.links.get .office).queue.length < 12) ∧
    ((∀ d o, liftingTheirs.orderAt d = some o → o.records.length ≤ 4) ∧
      ∀ d o, liftingTheirs.orderAt d = some o → d = 2 ∨ d = 3) ∧
    ((∀ h q, liftingTwo.recordOf h = some q → q.waitSlot ≠ some (lift .pickup).ref) ∧
      ∀ h q, liftingTheirs.recordOf h = some q → q.waitSlot ≠ some (lift .pickup).ref) ∧
    (beam.swl < beam.tare + ([h0].map
      (withOrder (put granted 0 { mine with mass := 12801 } (.stack 0)) 2 (lift .pickup)).massOf).sum ∧
      (({ way with extent := 5999 } : Sweep).extent < extentOf ([h0].map (lifting .pickup).lengthOf) 6000)) := by
  refine ⟨by decide +kernel, by decide +kernel,
    ⟨State.forall_orders (by decide +kernel), State.forall_orders (by decide +kernel)⟩,
    ⟨State.forall_records (by decide +kernel), State.forall_records (by decide +kernel)⟩, by decide +kernel⟩

/-- Crane 1's order over the whole runway, with its load on the hook. -/
def loadedFar (dest : Place) : State :=
  withOrder (loaded .carry) 2
    { lift .carry with sweep := some { way with span := ⟨0, 180000⟩, corridor := ⟨0, 180000⟩ }, dest := .place dest }

theorem witness_LandingsEndByTheirPlace :
    (∀ d ∈ [Place.stack 1, .scrap], (loadedFar d).ready (crane1 1) (.crane .one) .run ∧
      ((loadedFar d).activeOrder .one).isSome = true ∧ (loadedFar d).orders.length = 1 ∧ (loadedFar d).hook .one = [h0] ∧
      (loadedFar d).recordOf h0 = some { plate with custody := .carried .one } ∧
      ((loadedFar d).runway.get .two).request = none) ∧
    (plan.placeAt (clamp 180000 37500) 14000 = some (.stack 1) ∧ plan.placeAt (clamp 180000 78000) 0 = some (.station .one .a) ∧
      plan.placeAt (clamp 180000 166000) 0 = some .scrap ∧ plan.placeAt (clamp 180000 7500) 0 = some .infeed) ∧
    ((loadedFar (.stack 1)).hasRoom (.stack 1) 1 14 (some ⟨.one, 1⟩) = true ∧
      (loadedFar (.stack 1)).hasRoom (.station .one .a) 1 14 (some ⟨.one, 1⟩) = true ∧
      (loadedFar (.stack 1)).closedTo (.station .one .a) (some ⟨.one, 1⟩) = false) ∧
    ((loadedFar .scrap).mask.stock = true ∧ (loadedFar .scrap).mask.crane = true ∧
      ((loadedFar .scrap).links.get .office).queue.length < 8) ∧
    ((put (loadedFar (.stack 1)) 1 { plate with thickness := 987 } (.stack 2)).hasRoom (.stack 2) 1 14 (some ⟨.one, 1⟩) = false ∧
      (put (loadedFar (.stack 1)) 1 { plate with booking := some ⟨.two, 3⟩ } (.stack 2)).closedTo (.stack 2) (some ⟨.one, 1⟩) =
        true) ∧
    ((withOrder granted 2 { skeletonOrder .carry with skeleton := .onHook 105 }).hungSkeleton .one ≠ none ∧
      ({ skeletonOrder .carry with skeleton := .onHook 105 } : Order).skeleton ≠ .none) := by
  decide +kernel

/-! A REDIRECT's completion, requests given up and made again, activation. -/

/-- Crane 1 loaded at x. -/
def loadedAt (x : Nat) (o : Order) : State :=
  { withOrder (loaded .carry) 2 o with runway := granted.runway.set .one { granted.runway.one with lastX := some x } }

def besideBed (st : QuiesceState) (held : HolderSet) : State := withSession (loadedAt 78000 (lift .carry)) st held

theorem witness_RedirectsCompleteOnTheirNewSpan :
    ((loadedAt 30000 (lift .carry)).ready (crane1 9) (.crane .one) .run ∧
      (loadedAt 30000 (lift .carry)).activeOrder .one = some (2, lift .carry) ∧
      (loadedAt 30000 (paused (lift .carry))).activeOrder .one = some (2, paused (lift .carry)) ∧
      (loadedAt 30000 (lift .carry)).findOrder ⟨.one, 1⟩ = some (2, lift .carry) ∧
      (loadedAt 30000 (lift .carry)).committed.inUse 2 = true ∧ (loadedAt 30000 (lift .carry)).hook .one = [h0] ∧
      (loadedAt 30000 (lift .carry)).hasRoom (.stack 2) 1 14 none = true ∧
      (loadedAt 30000 (lift .carry)).hasRoom (.stack 1) 1 14 (some ⟨.one, 1⟩) = true ∧
      (loadedAt 30000 (lift .carry)).closedTo (.stack 2) (some ⟨.one, 1⟩) = false ∧
      ((loadedAt 30000 (lift .carry)).runway.get .one).span = some ⟨.move, ⟨0, 90000⟩⟩ ∧
      ((loadedAt 30000 (lift .carry)).runway.get .two).span = some ⟨.rest, ⟨142500, 157500⟩⟩ ∧
      ((loadedAt 30000 (lift .carry)).runway.get .two).request = none) ∧
    ((loadedAt 30000 (lift .carry)).hookExtent .one = 6000 ∧ widen 180000 30000 37500 7500 = ⟨22500, 45000⟩ ∧
      widen 180000 37500 78000 7500 = ⟨30000, 85500⟩) ∧
    (∀ b, (loadedAt 30000 (lift .carry)).bedUnder b ⟨22500, 45000⟩ = false) ∧
    (((besideBed .quiesced heldByOne).quiesce.get .one).state = .quiesced ∧
      (besideBed .quiesced heldByOne).bedUnder .one ⟨30000, 85500⟩ = true ∧
      (besideBed .quiesced heldByOne).bedUnder .two ⟨30000, 85500⟩ = false) ∧
    ((withSession (loadedAt 30000 (lift .carry)) .quiesced heldByOne).quiesce.get .one).holders.order.get .one = some 1 ∧
    (((loadedAt 78000 (lift .carry)).quiesce.get .one).state = .running ∧
      (loadedAt 78000 (lift .carry)).bedUnder .one ⟨30000, 85500⟩ = true ∧
      (loadedAt 78000 (lift .carry)).linkUp (.bed .one) = true) := by
  refine ⟨by decide +kernel, by decide +kernel, fun b => by cases b <;> decide +kernel, by decide +kernel, by decide +kernel,
    by decide +kernel⟩

/-- A REDIRECT's wait for bed 1. -/
def rerouted (halted : Bool) (joined : PerBed Bool) : Order :=
  { lift .reserving with
    dest := .place (.stack 2), remembered := .carry
    redirect := some { haltedReturn := halted, before := some way, cleared := true, joined := joined } }

theorem witness_RedirectsCompleteOnTheirNewSpan_parked :
    ((withSession (loadedAt 78000 (rerouted false ⟨true, false⟩)) .parking heldByOne).ready bed1 (.bed .one) .run ∧
      (withSession (loadedAt 78000 (rerouted false ⟨true, false⟩)) .parking heldByOne).activeOrder .one =
        some (2, rerouted false ⟨true, false⟩) ∧
      (withSession (loadedAt 78000 (rerouted true ⟨true, false⟩)) .parking heldByOne).activeOrder .one =
        some (2, rerouted true ⟨true, false⟩)) ∧
    ((withSession (loadedAt 78000 (rerouted false ⟨true, false⟩)) .parking heldByOne).bedUnder .one way.span = true ∧
      (withSession (loadedAt 78000 (rerouted false ⟨true, false⟩)) .parking heldByOne).bedUnder .two way.span = false ∧
      ((withSession (loadedAt 78000 (rerouted false ⟨true, false⟩)) .parking heldByOne).arcs.get .one).rise = none ∧
      ((withSession (loadedAt 78000 (rerouted false ⟨true, false⟩)) .parking heldByOne).quiesce.get
        .one).holders.order = ⟨some 1, none⟩ ∧
      ((withSession (loadedAt 78000 (rerouted false ⟨true, false⟩)) .parking heldByOne).quiesce.get
        .two).holders.order = ⟨none, none⟩) := by
  decide +kernel

/-- A loaded order in RESERVING at its third tick. -/
def overdue (o : Order) : State := ticking .wait (loadedAt 78000 { o with timer := some ⟨2⟩ })

theorem witness_RequestsAreGivenUpAndMadeAgain :
    (AtItsTick (overdue (lift .reserving)) 2 .wait ∧ (overdue (lift .reserving)).hookLoaded .one = true ∧
      ((overdue (lift .reserving)).runway.get .two).request = none ∧ (lift .reserving).redirect = none ∧
      (lift .reserving).spanHeld = true) ∧
    AtItsTick (overdue { lift .reserving with spanHeld := false }) 2 .wait ∧
    AtItsTick (withSession (overdue (rerouted false ⟨true, false⟩)) .parking heldByOne) 2 .wait := by
  refine ⟨⟨atItsTick_of_order (o := { lift .reserving with timer := some ⟨2⟩ }) (m := ⟨2⟩) (by decide +kernel) (by decide +kernel)
      (by decide +kernel) rfl (by decide) (.inl ⟨rfl, rfl⟩), by decide +kernel⟩,
    atItsTick_of_order (o := { lift .reserving with spanHeld := false, timer := some ⟨2⟩ }) (m := ⟨2⟩) (by decide +kernel)
      (by decide +kernel) (by decide +kernel) rfl (by decide) (.inl ⟨rfl, rfl⟩),
    atItsTick_of_order (o := { rerouted false ⟨true, false⟩ with timer := some ⟨2⟩ }) (m := ⟨2⟩) (by decide +kernel)
      (by decide +kernel) (by decide +kernel) rfl (by decide) (.inl ⟨rfl, rfl⟩)⟩

/-- An order from the hook HALTED in RESERVING, with its span or without. -/
def stalled (held : Bool) : Order :=
  { lift .halted with
    source := some (.hook .one), records := [], spanHeld := held, remembered := .reserving,
    sweep := if held then some way else none, causes := { noCauses with timeout := true } }

theorem witness_RequestsAreGivenUpAndMadeAgain_resume :
    (∀ held, (withSession (loadedAt 78000 (stalled held)) .quiesced heldByOne).ready (crane1 9) (.crane .one) .run ∧
      (withSession (loadedAt 78000 (stalled held)) .quiesced heldByOne).activeOrder .one = some (2, stalled held) ∧
      (withSession (loadedAt 78000 (stalled held)) .quiesced heldByOne).findOrder ⟨.one, 1⟩ = some (2, stalled held) ∧
      (stalled held).causes =
        { noCauses with operator := (stalled held).causes.operator, timeout := (stalled held).causes.timeout }) ∧
    (((withSession (loadedAt 78000 (stalled true)) .quiesced heldByOne).quiesce.get .one).state = .quiesced ∧
      (withSession (loadedAt 78000 (stalled true)) .quiesced heldByOne).bedUnder .two way.span = false ∧
      ((withSession (loadedAt 78000 (stalled true)) .parking heldByOne).quiesce.get .one).state ≠ .quiesced) ∧
    (((near (loadedAt 78000 (stalled false)) 90001).runway.get .one).lastX = some 78000 ∧
      ((near (loadedAt 78000 (stalled false)) 85500).runway.get .two).span = some ⟨.rest, ⟨85500, 157500⟩⟩ ∧
      (near (loadedAt 78000 (stalled false)) 85500).hungSkeleton .one = none ∧
      widen 180000 37500 78000 7500 = ⟨30000, 85500⟩) ∧
    (({ loadedAt 78000 (stalled false) with runway := manned.runway.set .one startRunway } : State).runway.get .one).lastX =
      none := by
  refine ⟨fun held => by cases held <;> decide +kernel, by decide +kernel, by decide +kernel, by decide +kernel⟩

def waiting : Order := { ride .reserving with spanHeld := false, sweep := none }

/-- Crane 1's TRAVEL in RESERVING and a MOVE of k plates QUEUED behind it. -/
def lined (s : State) (k : Nat) : State :=
  withOrder (withOrder s 2 waiting) 3 { newOrder .one 5 .move (some (.stack 0)) k (.place (.stack 1)) with stage := .queued }

/-- Crane 1 at 30,000 with its TRAVEL to 58,499 in RESERVING: its span w with its request pending, or none before the first
position. Crane 2's span begins at x. -/
def reserving (w : Option Sweep) (x : Nat) : State :=
  near { withOrder manned 2 { waiting with dest := .x 58499, sweep := w } with
    runway := ⟨if w = none then startRunway else { manned.runway.one with request := w.map fun w => ⟨1, w⟩ },
      manned.runway.two⟩ } x

def waysTo58 : Sweep := { extent := 6000, span := ⟨22500, 65999⟩, corridor := ⟨28500, 59999⟩ }

def reported (s : State) : State := { s with runway := s.runway.set .one { s.runway.get .one with lastX := some 30000 } }

theorem witness_PositionReportsMoveTheSpanOrBreach_reserving :
    (∀ w ∈ [none, some waysTo58], ∀ x ∈ [37500, 65999, 66000],
      (reserving w x).ready (crane1 9) (.crane .one) .run ∧ (reserving w x).findOrder ⟨.one, 1⟩ =
        some (2, { waiting with dest := .x 58499, sweep := w }) ∧
      (reserving w x).activeOrder .one = some (2, { waiting with dest := .x 58499, sweep := w }) ∧
      ((reserving w x).runway.get .one).breach = none ∧ ((reserving w x).runway.get .two).request = none ∧
      ((reserving w x).runway.get .two).span = some ⟨.rest, ⟨x, 157500⟩⟩ ∧
      (reserving w x).extentInterval .one 30000 = ⟨22500, 37500⟩) ∧
    (((reserving none 66000).runway.get .one).request = none ∧ ((reserving none 37500).runway.get .one).span = none ∧
      (reported (reserving none 66000)).firstSweep { waiting with dest := .x 58499 } = some waysTo58 ∧
      ((reserving (some waysTo58) 66000).runway.get .one).request = some ⟨1, waysTo58⟩ ∧
      (waiting.spanHeld = false ∧ waiting.redirect = none ∧ waiting.records = [])) ∧
    (∀ b, (reserving none 66000).bedUnder b waysTo58.span = false ∧
      ∀ c, ((reserving none 66000).quiesce.get b).holders.order.get c = none) ∧
    ((withOrder booked 2 { fetch with tag := 1, stage := .reserving }).recordOf h0 =
        some { plate with booking := some ⟨.two, 3⟩ } ∧
      ((reported (withOrder booked 2 { fetch with tag := 1, stage := .reserving })).firstSweep
        { fetch with tag := 1, stage := .reserving }).isSome = true) ∧
    (((strayed 40000).runway.get .one).breach ≠ none ∧
      ({ manned with runway := ⟨{ manned.runway.one with breach := some ⟨.idle, 0, 0⟩ }, manned.runway.two⟩ } : State).grantedOrder
        .one = none) := by
  refine ⟨by decide +kernel, by decide +kernel, fun b => ?_, by decide +kernel, by decide +kernel⟩
  refine ⟨by cases b <;> decide +kernel, fun c => by cases b <;> cases c <;> decide +kernel⟩

def lineMoved (s : State) : State :=
  { s with
    shared := s.shared.setIfInBounds 0 none
    runway := s.runway.set .one { s.runway.one with request := s.runway.one.request.filter fun q => q.tag ≠ 1 } }

theorem witness_QueuedOrdersAreActivated :
    (∀ k ∈ [1, 2], (lined toLift k).ready (crane1 9) (.crane .one) .run ∧
      (lined toLift k).activeOrder .one = some (2, waiting) ∧ (lined toLift k).findOrder ⟨.one, 1⟩ = some (2, waiting) ∧
      (lined toLift k).queuedOrder .one =
        some (3, { newOrder .one 5 .move (some (.stack 0)) k (.place (.stack 1)) with stage := .queued }) ∧
      (lined toLift k).hookLoaded .one = false) ∧
    (∀ x y, (lined toLift 1).orderAt x = some y → y.crane = .one → x = 2 ∨ x = 3) ∧
    (∀ b, ((lined toLift 1).quiesce.get b).holders.order.get .one ≠ some 1) ∧
    (((lined toLift 1).runway.get .two).request = none ∧
      ∀ b, ((lined toLift 1).quiesce.get b).holders.order.get .two = none) ∧
    ((lineMoved (lined toLift 1)).acceptance ((lineMoved (lined toLift 1)).withRecords
        (newOrder .one 5 .move (some (.stack 0)) 1 (.place (.stack 1)))) = none ∧
      ((lineMoved (lined toLift 1)).withRecords
        (newOrder .one 5 .move (some (.stack 0)) 1 (.place (.stack 1)))).records = [h0] ∧
      ((lined toLift 1).links.get (.crane .one)).queue.length < 15) ∧
    (lineMoved (lined toLift 2)).acceptance ((lineMoved (lined toLift 2)).withRecords
      (newOrder .one 5 .move (some (.stack 0)) 2 (.place (.stack 1)))) = some .notTop ∧
    ((lined booked 1).recordOf h0 = some { plate with booking := some ⟨.two, 3⟩ } ∧
      (lineMoved (near (lined toLift 1) 45000)).firstSweep
        { newOrder .one 5 .move (some (.stack 0)) 1 (.place (.stack 1)) with records := [h0] } =
          some { extent := 6000, span := ⟨22500, 45000⟩, corridor := ⟨28500, 39000⟩ }) := by
  refine ⟨by decide +kernel, State.forall_orders (by decide +kernel), fun b => by cases b <;> decide +kernel,
    ⟨by decide +kernel, fun b => by cases b <;> decide +kernel⟩, by decide +kernel, by decide +kernel, by decide +kernel⟩

end Sys2Proof.Tests
end

namespace Sys2Proof.Machine

open Sys2Proof

/-! ### Requests that pass the checks of R188 and change nothing -/

@[simp] theorem State.receive_part (s : State) (l : Link) : (s.receive l).part = s.part := rfl

@[simp] theorem State.receive_linkUp (s : State) (l m : Link) : (s.receive l).linkUp m = s.linkUp m := by
  simp only [State.linkUp, State.receive, State.modLink, PerLink.get_set, State.quiet_links]
  split
  · next same => rw [same]
  · rfl

/-- The five checks of R188 and FORMAT, met together. -/
theorem State.linkCheck_receive_eq_none {s : State} {r : Req} {k : RequestKind} (known : k.isUnknown = false)
    (allowed : k.allowedOn r.link = true) (up : s.linkUp r.link = true) (status : r.status = 0)
    (taken : k.takenIn s.part = true) (fits : r.fits = true) : (s.receive r.link).linkCheck r k = none := by
  simp [State.linkCheck, known, allowed, up, status, taken, fits]

/-- R188: QUERY is a kind of every link. -/
theorem query_allowedOn (l : Link) : RequestKind.query.allowedOn l = true := rfl

theorem query_takenIn (p : PartState) : RequestKind.query.takenIn p = true := by
  cases p <;> rfl

/-- A request that passes its checks and whose owning block leaves the state alone is answered, and no more. -/
theorem takeRequest_after {r : Req} {k : RequestKind} {s : State} {owner : State → Reply} {code : Status}
    {body : AnswerBody} (checks : (s.receive r.link).linkCheck r k = none)
    (reply : owner (s.receive r.link) = (s.receive r.link, code, body)) :
    takeRequest r k s owner = .next (s.after r k code body) := by
  rw [takeRequest_owner owner checks, reply]
  rfl

/-- A QUERY on an UP link with status 0 and a fitting body comes to what its owning block replies, in either part state. -/
theorem takeRequest_query {r : Req} {s : State} {owner : State → Reply} {code : Status} {body : AnswerBody}
    (up : s.linkUp r.link = true) (status : r.status = 0) (fits : r.fits = true)
    (reply : owner (s.receive r.link) = (s.receive r.link, code, body)) :
    takeRequest r .query s owner = .next (s.after r .query code body) :=
  takeRequest_after (State.linkCheck_receive_eq_none rfl (query_allowedOn _) up status (query_takenIn _) fits) reply

/-! ### Place lists and the place field of a record -/

theorem State.mem_flatten_piles {s : State} {h : Handle} :
    h ∈ s.piles.toList.flatten ↔ ∃ n < 48, h ∈ s.pile n := by
  rw [List.mem_flatten]
  constructor
  · rintro ⟨hs, mem, hh⟩
    obtain ⟨n, lt, rfl⟩ := Vector.mem_iff_getElem.1 (Vector.mem_toList_iff.1 mem)
    exact ⟨n, lt, by simpa [State.pile, lt] using hh⟩
  · rintro ⟨n, lt, hh⟩
    exact ⟨s.piles[n], by simp, by simpa [State.pile, lt] using hh⟩

/-- The lists of the hall, by the place each belongs to. -/
theorem State.mem_listed {s : State} {h : Handle} :
    h ∈ s.listed ↔ h ∈ s.infeed ∨ (∃ c, h ∈ s.hook c) ∨ (∃ b st, h ∈ (s.station b st).records) ∨
      ∃ n < 48, h ∈ s.pile n := by
  have hooks : (∃ c, h ∈ s.hook c) ↔ h ∈ s.hook .one ∨ h ∈ s.hook .two :=
    ⟨fun ⟨c, hc⟩ => by cases c <;> simp [hc], fun hc => hc.elim (⟨_, ·⟩) (⟨_, ·⟩)⟩
  have stations : (∃ b st, h ∈ (s.station b st).records) ↔
      (h ∈ (s.station .one .a).records ∨ h ∈ (s.station .one .b).records) ∨
        h ∈ (s.station .two .a).records ∨ h ∈ (s.station .two .b).records :=
    ⟨fun ⟨b, st, hb⟩ => by cases b <;> cases st <;> simp [hb],
      fun hb => hb.elim (·.elim (⟨_, _, ·⟩) (⟨_, _, ·⟩)) (·.elim (⟨_, _, ·⟩) (⟨_, _, ·⟩))⟩
  rw [hooks, stations, ← State.mem_flatten_piles]
  simp only [State.listed, List.mem_append, or_assoc]

/-- What a place field tells about the record h: the list it names has h, at the level or hook position it gives; without one
no list has h (01, record field table). -/
def State.PlaceTells (s : State) (h : Handle) : Option RecordPlace → Prop
  | some .infeed => h ∈ s.infeed
  | some (.stack n level) => (s.pile n)[level]? = some h
  | some (.station b st) => h ∈ (s.station b st).records
  | some (.hook c position) => (s.hook c)[position]? = some h
  | none => h ∉ s.listed

theorem getElem?_idxOf_of_contains {h : Handle} {hs : List Handle} (mem : hs.contains h = true) :
    hs[hs.idxOf h]? = some h :=
  List.getElem?_idxOf (List.contains_iff_mem.1 mem)

theorem State.placeOf_tells (s : State) (h : Handle) : s.PlaceTells h (s.placeOf h) := by
  unfold State.placeOf
  split
  · next infeed => exact List.contains_iff_mem.1 infeed
  · next notInfeed =>
    split
    · next c found => exact getElem?_idxOf_of_contains (List.find?_some found :)
    · next noHook =>
      split
      · next b st found => exact List.contains_iff_mem.1 (List.find?_some found :)
      · next noStation =>
        split
        · next n found => exact getElem?_idxOf_of_contains (List.find?_some found :)
        · next noStack =>
          simp only [List.find?_eq_none, List.contains_iff_mem] at noHook noStation noStack
          intro listed
          rcases State.mem_listed.1 listed with hi | ⟨c, hc⟩ | ⟨b, st, hb⟩ | ⟨n, lt, hn⟩
          · exact notInfeed (List.contains_iff_mem.2 hi)
          · exact noHook c (by cases c <;> decide) hc
          · exact noStation (b, st) (by cases b <;> cases st <;> decide) hb
          · exact noStack n (List.mem_range.2 lt) hn

/-! ### QUERY of a record (R15) -/

theorem takeQueryRecord_index (s : State) {i : Nat} (lt : i < 512) :
    takeQueryRecord i none s = (s, .ok, s.slotBody i true) := by
  simp [takeQueryRecord, lt]

theorem takeQueryRecord_live (s : State) {i g : Nat} (lt : i < 512) (le : g ≤ 63)
    (live : (s.recordOf ⟨i, g⟩).isSome = true) :
    takeQueryRecord i (some g) s = (s, .ok, s.slotBody i true) := by
  simp [takeQueryRecord, lt, le, live]

theorem takeQueryRecord_stale (s : State) {i g : Nat} (lt : i < 512) (le : g ≤ 63) (stale : s.recordOf ⟨i, g⟩ = none) :
    takeQueryRecord i (some g) s = (s, .stale, s.slotBody i false) := by
  simp [takeQueryRecord, lt, le, stale]

theorem takeQueryRecord_range (s : State) {i : Nat} {g : Option Nat} (out : 512 ≤ i ∨ ∃ k, g = some k ∧ 63 < k) :
    takeQueryRecord i g s = (s, .range, .empty) := by
  have outside : (decide (i < Config.slotCount) && g.all (· ≤ Config.maxGen)) = false := by
    rcases out with hi | ⟨k, rfl, hk⟩
    · simp [hi]
    · simp [hk]
  unfold takeQueryRecord
  rw [outside]
  rfl

theorem State.recordOf_current (s : State) (i : Nat) : s.recordOf ⟨i, (s.slot i).gen⟩ = (s.slot i).content :=
  if_pos rfl

theorem State.slotBody_occupied {s : State} {i : Nat} {q : Record} (occupied : (s.slot i).content = some q) :
    s.slotBody i true = .slot true (s.slot i).gen (some
      { handle := ⟨i, (s.slot i).gen⟩, record := q, place := s.placeOf ⟨i, (s.slot i).gen⟩ }) := by
  simp [State.slotBody, State.recordView, occupied]

theorem State.slotBody_free {s : State} {i : Nat} (free : (s.slot i).content = none) :
    s.slotBody i true = .slot false (s.slot i).gen none := by
  simp [State.slotBody, State.recordView, free]

/-! ### QUERY of a stack and of a station (R41) -/

theorem takeQueryStack_inRange (s : State) {n : Nat} (lt : n < 48) :
    takeQueryStack n s = (s, .ok, .stack (s.stackView n)) := if_pos lt

theorem takeQueryStack_range (s : State) {n : Nat} (le : 48 ≤ n) : takeQueryStack n s = (s, .range, .empty) :=
  if_neg (Nat.not_lt.2 le)

theorem takeQueryStation_numbers (s : State) (b : Bed) (st : Station) :
    takeQueryStation b.number st.code s = (s, .ok, .station (s.stationView b st)) := by
  cases b <;> cases st <;> rfl

theorem ZoneKind.lists_iff {k : ZoneKind} {n : Nat} :
    k.lists n = true ↔ ∃ lanes lo hi ls, k = .stacking lanes lo hi ls ∧ n ∈ ls := by
  cases k with
  | stacking lanes lo hi ls => simp [ZoneKind.lists]
  | infeed | station | scrap | park => simp [ZoneKind.lists]

theorem HallConfig.mem_validZones {c : HallConfig} {i : Nat} {z : Zone} :
    (i, z) ∈ c.validZones ↔ i < 16 ∧ c.zone i = z ∧ z.valid = true := by
  simp only [HallConfig.validZones, List.mem_filter, List.mem_map, List.mem_range, Prod.mk.injEq]
  constructor
  · rintro ⟨⟨j, lt, rfl, rfl⟩, valid⟩
    exact ⟨lt, rfl, valid⟩
  · rintro ⟨lt, rfl, valid⟩
    exact ⟨⟨i, lt, rfl, rfl⟩, valid⟩

/-- R25. -/
theorem HallConfig.inUse_iff {c : HallConfig} {n : Nat} :
    c.inUse n = true ↔ ∃ i z lanes lo hi ls, i < 16 ∧ c.zone i = z ∧ z.valid = true ∧
      z.kind = .stacking lanes lo hi ls ∧ n ∈ ls := by
  rw [HallConfig.inUse, List.any_eq_true]
  constructor
  · rintro ⟨⟨i, z⟩, mem, lists⟩
    obtain ⟨lt, zone, valid⟩ := HallConfig.mem_validZones.1 mem
    obtain ⟨lanes, lo, hi, ls, kind, named⟩ := ZoneKind.lists_iff.1 lists
    exact ⟨i, z, lanes, lo, hi, ls, lt, zone, valid, kind, named⟩
  · rintro ⟨i, z, lanes, lo, hi, ls, lt, zone, valid, kind, named⟩
    exact ⟨(i, z), HallConfig.mem_validZones.2 ⟨lt, zone, valid⟩, ZoneKind.lists_iff.2 ⟨lanes, lo, hi, ls, kind, named⟩⟩

theorem foldl_add_pairs (ps : List (Nat × Nat)) (a : Nat × Nat) :
    ps.foldl (fun a i => (a.1 + i.1, a.2 + i.2)) a = (a.1 + (ps.map (·.1)).sum, a.2 + (ps.map (·.2)).sum) := by
  induction ps generalizing a with
  | nil => rfl
  | cons p ps ih => simp [ih, Nat.add_assoc]

/-- The inbound bookings of a place, no order left out, are those that name it among all that live orders hold (R37). -/
theorem State.inboundAt_none (s : State) (p : Place) :
    s.inboundAt p none =
      (((s.orders.filterMap (·.2.inbound)).filter (·.place = p)).foldr (·.count + ·) 0,
        ((s.orders.filterMap (·.2.inbound)).filter (·.place = p)).foldr (·.thickness + ·) 0) := by
  unfold State.inboundAt
  rw [foldl_add_pairs]
  induction s.orders with
  | nil => rfl
  | cons q qs ih =>
    cases hq : q.2.inbound with
    | none => simpa [hq] using ih
    | some i =>
      by_cases here : i.place = p <;> simpa [hq, here] using ih

theorem Custody.ofBed_iff {k : Custody} : k.ofBed = true ↔ ∃ b, k = .claimed b ∨ k = .worked b := by
  cases k <;> simp [Custody.ofBed]

theorem State.anyClaimed_iff {s : State} {hs : List Handle} :
    s.anyClaimed hs = true ↔ ∃ h ∈ hs, ∃ b, s.custodyOf h = some (.claimed b) ∨ s.custodyOf h = some (.worked b) := by
  simp only [State.anyClaimed, List.any_eq_true, Option.any_eq_true, Custody.ofBed_iff]
  refine exists_congr fun h => and_congr_right fun _ => ?_
  constructor
  · rintro ⟨k, custody, b, rfl | rfl⟩
    · exact ⟨b, .inl custody⟩
    · exact ⟨b, .inr custody⟩
  · rintro ⟨b, custody | custody⟩
    · exact ⟨_, custody, b, .inl rfl⟩
    · exact ⟨_, custody, b, .inr rfl⟩

/-- Settles O25. The receipt of the frame moves no table a QUERY answers from, so each answer is what the owning block replies
in s itself. -/
theorem queryAnswersRecordsAndPlaces : Obligations.QueryAnswersRecordsAndPlaces := by
  refine ⟨fun s r i up status fits lt => ⟨fun q occupied => ?occupied, fun free => ?free, fun g le dead => ?stale⟩,
    fun s r up status fits => ⟨fun n lt => ?stack, fun n le => ?noStack, fun b st => ?station⟩,
    fun s r up status fits => ⟨fun i g out => ?noHandle, fun n g => ?noObject⟩⟩
  case occupied =>
    have body := State.slotBody_occupied occupied
    have tells := s.placeOf_tells ⟨i, (s.slot i).gen⟩
    generalize s.placeOf ⟨i, (s.slot i).gen⟩ = p at body tells
    have live : (s.recordOf ⟨i, (s.slot i).gen⟩).isSome = true := by rw [s.recordOf_current, occupied]; rfl
    refine ⟨p, ?_⟩
    rw [← body]
    exact ⟨takeRequest_query up status fits (takeQueryRecord_index _ lt),
      fun le => takeRequest_query up status fits (takeQueryRecord_live _ lt le live),
      by rintro rfl; exact tells, by rintro n level rfl; exact tells, by rintro b st rfl; exact tells,
      by rintro c pos rfl; exact tells, by rintro rfl; exact tells⟩
  case free =>
    rw [← State.slotBody_free free]
    exact takeRequest_query up status fits (takeQueryRecord_index _ lt)
  case stale => exact takeRequest_query up status fits (takeQueryRecord_stale _ lt le dead)
  case stack =>
    refine ⟨s.stackView n, takeRequest_query up status fits (takeQueryStack_inRange _ lt), rfl, HallConfig.inUse_iff, rfl, rfl,
      ?_, ?_⟩
    · exact congrArg Prod.fst (s.inboundAt_none (.stack n))
    · exact congrArg Prod.snd (s.inboundAt_none (.stack n))
  case noStack => exact takeRequest_query up status fits (takeQueryStack_range _ le)
  case station =>
    exact ⟨s.stationView b st, takeRequest_query up status fits (takeQueryStation_numbers _ b st), rfl, rfl,
      congrArg Prod.fst (s.inboundAt_none (.station b st)), rfl, rfl, State.anyClaimed_iff⟩
  case noHandle => exact takeRequest_query up status fits (takeQueryRecord_range _ out)
  case noObject => exact takeRequest_query up status fits (owner := takeRecordQuery (.otherObject n) g) rfl

end Sys2Proof.Machine

namespace Sys2Proof.Machine

open Sys2Proof

/-! ### The place map (R23 to R25) -/

theorem Zone.holds_iff {z : Zone} {x : Nat} : z.holds x = true ↔ z.xLo ≤ x ∧ x < z.xHi := by
  simp [Zone.holds]

/-- R23: NO_ZONE. -/
theorem HallConfig.zoneAt_eq_none_iff {c : HallConfig} {x : Nat} :
    c.zoneAt x = none ↔ ∀ i < 16, (c.zone i).valid = true → ¬(c.zone i).holds x = true := by
  rw [HallConfig.zoneAt, List.find?_eq_none]
  constructor
  · intro noneHolds i lt valid
    exact noneHolds (i, c.zone i) (HallConfig.mem_validZones.2 ⟨lt, rfl, valid⟩)
  · rintro noneHolds ⟨i, z⟩ mem
    obtain ⟨lt, rfl, valid⟩ := HallConfig.mem_validZones.1 mem
    exact noneHolds i lt valid

/-- R23: a position decodes to a valid entry of the table that holds it. -/
theorem HallConfig.zoneAt_some {c : HallConfig} {x i : Nat} {z : Zone} (zone : c.zoneAt x = some (i, z)) :
    i < 16 ∧ c.zone i = z ∧ z.valid = true ∧ z.xLo ≤ x ∧ x < z.xHi := by
  obtain ⟨lt, entry, valid⟩ := HallConfig.mem_validZones.1 (List.mem_of_find?_eq_some zone)
  exact ⟨lt, entry, valid, Zone.holds_iff.1 (List.find?_some zone :)⟩

/-- R24: the lane of a y that lies d above the low edge is the quotient of d * lanes by the zone's width. -/
theorem laneAt_inside {lanes lo hi d : Nat} (inside : lo + d < hi) :
    laneAt lanes lo hi (lo + d) = some (d * lanes / (hi - lo)) := by
  have range : (lo : Int) ≤ lo + d ∧ (lo + d : Int) < hi := by omega
  have offset : (lo + d : Int).toNat - lo = d := by omega
  rw [laneAt, if_pos range, offset]

/-- R24: NO_LANE. -/
theorem laneAt_outside {lanes lo hi : Nat} {y : Int} (outside : y < lo ∨ hi ≤ y) : laneAt lanes lo hi y = none :=
  if_neg (by omega)

/-- R24: the lane runs from 0 to lanes - 1 for every y of the zone's range. -/
theorem lane_lt {lanes width d k : Nat} (inside : d < width) (lower : k * width ≤ d * lanes) (someLane : 0 < lanes) :
    k < lanes := by
  have below : k * width < lanes * width := calc
    k * width ≤ d * lanes := lower
    _ < width * lanes := Nat.mul_lt_mul_of_pos_right inside someLane
    _ = lanes * width := Nat.mul_comm ..
  exact Nat.lt_of_mul_lt_mul_right below

section PlaceAt

variable {c : HallConfig} {x i : Nat} {z : Zone} {y : Int}

theorem HallConfig.placeAt_noZone (noZone : c.zoneAt x = none) : c.placeAt x y = none := by
  simp [HallConfig.placeAt, noZone]

/-- R25: in a STACKING zone the lane of y, if it has one, picks the stack from the lane list. -/
theorem HallConfig.placeAt_stacking {lanes lo hi : Nat} {ls : List Nat} (zone : c.zoneAt x = some (i, z))
    (kind : z.kind = .stacking lanes lo hi ls) :
    c.placeAt x y = (laneAt lanes lo hi y).bind fun k => (ls[k]?).map .stack := by
  simp only [HallConfig.placeAt, zone, kind]
  cases laneAt lanes lo hi y <;> rfl

theorem HallConfig.placeAt_infeed (zone : c.zoneAt x = some (i, z)) (kind : z.kind = .infeed) :
    c.placeAt x y = some .infeed := by
  simp [HallConfig.placeAt, zone, kind]

theorem HallConfig.placeAt_scrap (zone : c.zoneAt x = some (i, z)) (kind : z.kind = .scrap) :
    c.placeAt x y = some .scrap := by
  simp [HallConfig.placeAt, zone, kind]

theorem HallConfig.placeAt_park (zone : c.zoneAt x = some (i, z)) (kind : z.kind = .park) : c.placeAt x y = none := by
  simp [HallConfig.placeAt, zone, kind]

theorem HallConfig.placeAt_station {b : Bed} {st : Station} (zone : c.zoneAt x = some (i, z))
    (kind : z.kind = .station b st) : c.placeAt x y = some (.station b st) := by
  simp [HallConfig.placeAt, zone, kind]

end PlaceAt

/-- Settles O27. The lane number k is pinned from both sides by the two products, so it is the quotient that laneAt takes. -/
theorem positionsDecodeToPlaces : Obligations.PositionsDecodeToPlaces := by
  refine fun c x => ⟨?noZone, fun noZone y => HallConfig.placeAt_noZone noZone, fun i z zone => ?zone⟩
  case noZone =>
    simp only [HallConfig.zoneAt_eq_none_iff, Zone.holds_iff, not_and_or, Nat.not_le, Nat.not_lt]
  case zone =>
    obtain ⟨lt, entry, valid, lo_le, lt_hi⟩ := HallConfig.zoneAt_some zone
    refine ⟨lt, entry.symm, valid, lo_le, lt_hi, fun lanes lo hi ls kind => ⟨fun d k inside lower upper => ?lane, ?noLane⟩,
      fun y => ⟨HallConfig.placeAt_infeed zone, HallConfig.placeAt_scrap zone, HallConfig.placeAt_park zone,
        fun b st => HallConfig.placeAt_station zone⟩⟩
    case lane =>
      have quotient : d * lanes / (hi - lo) = k := Nat.div_eq_of_lt_le lower upper
      constructor
      · rw [HallConfig.placeAt_stacking zone kind, laneAt_inside inside, quotient, Option.bind_some]
      · exact lane_lt (by omega) lower
    case noLane =>
      intro y outside
      rw [HallConfig.placeAt_stacking zone kind, laneAt_outside outside, Option.bind_none]

end Sys2Proof.Machine

namespace Sys2Proof

theorem PerBed.set_set {α : Type} (p : PerBed α) (b : Bed) (v w : α) : (p.set b v).set b w = p.set b w := by
  cases b <;> rfl

end Sys2Proof

namespace Sys2Proof.Machine

open Sys2Proof

/-! ### What is read from one table alone -/

theorem State.entry_of_shared {s t : State} (same : t.shared = s.shared) (e : Nat) : t.entry e = s.entry e := by
  simp only [State.entry, same]

theorem State.orderAt_of_entry {s t : State} {e : Nat} (same : t.entry e = s.entry e) : t.orderAt e = s.orderAt e := by
  simp only [State.orderAt, same]

theorem State.recordOf_of_slots {s t : State} (same : t.slots = s.slots) (h : Handle) : t.recordOf h = s.recordOf h := by
  rw [State.recordOf, State.recordOf, State.slot, State.slot, same]

theorem State.hold_of_shared {s t : State} (same : t.shared = s.shared) : t.hold = s.hold := by
  simp only [State.hold, State.entry, same]

theorem State.orderAt_eq_some_iff {s : State} {e : Nat} {o : Order} :
    s.orderAt e = some o ↔ s.entry e = some (.order o) := by
  unfold State.orderAt
  split
  · next entry => simp [entry]
  · next other => exact ⟨(nomatch ·), fun entry => absurd entry (other o)⟩

/-! ### The fields a notice, a line or a session leaves alone -/

@[simp] theorem State.notify_shared (s : State) (l : Link) (n : Notice) : (s.notify l n).shared = s.shared :=
  (congrArg State.shared (s.notify_frame l n) :)

@[simp] theorem State.notify_quiesce (s : State) (l : Link) (n : Notice) : (s.notify l n).quiesce = s.quiesce :=
  (congrArg State.quiesce (s.notify_frame l n) :)

@[simp] theorem State.notify_permit (s : State) (l : Link) (n : Notice) : (s.notify l n).permit = s.permit :=
  (congrArg State.permit (s.notify_frame l n) :)

@[simp] theorem State.notify_motion (s : State) (l : Link) (n : Notice) : (s.notify l n).motion = s.motion :=
  (congrArg State.motion (s.notify_frame l n) :)

@[simp] theorem State.evalPermit_shared (s : State) (b : Bed) : (s.evalPermit b).shared = s.shared :=
  (congrArg State.shared (s.evalPermit_frame b) :)

@[simp] theorem State.evalPermit_links (s : State) (b : Bed) : (s.evalPermit b).links = s.links :=
  (congrArg State.links (s.evalPermit_frame b) :)

@[simp] theorem State.evalPermit_motion (s : State) (b : Bed) : (s.evalPermit b).motion = s.motion :=
  (congrArg State.motion (s.evalPermit_frame b) :)

@[simp] theorem State.setQuiesce_shared (s : State) (b : Bed) (f : Quiesce → Quiesce) :
    (s.setQuiesce b f).shared = s.shared :=
  (congrArg State.shared (s.setQuiesce_frame b f) :)

@[simp] theorem State.setQuiesce_links (s : State) (b : Bed) (f : Quiesce → Quiesce) :
    (s.setQuiesce b f).links = s.links :=
  (congrArg State.links (s.setQuiesce_frame b f) :)

@[simp] theorem State.setQuiesce_permit (s : State) (b : Bed) (f : Quiesce → Quiesce) :
    (s.setQuiesce b f).permit = s.permit.set b ((s.modQuiesce b f).permitDue b) :=
  (s.modQuiesce b f).evalPermit_permit b

/-- Only a bed in STOPPING has an allowance to lose with its permit (R115). -/
theorem State.evalPermit_quiesce {s : State} {b : Bed} (moves : (s.quiesce.get b).state ≠ .stopping) :
    (s.evalPermit b).quiesce = s.quiesce := by
  unfold State.evalPermit
  split
  · rfl
  · simp [moves]

theorem State.setQuiesce_quiesce {s : State} {b : Bed} {f : Quiesce → Quiesce}
    (moves : (f (s.quiesce.get b)).state ≠ .stopping) :
    (s.setQuiesce b f).quiesce = s.quiesce.set b (f (s.quiesce.get b)) :=
  State.evalPermit_quiesce (s := s.modQuiesce b f) (by simpa [State.modQuiesce] using moves)

/-! ### The lines under a HOLD, a fault or an ARC_FAULT -/

/-- R115. -/
theorem State.permitDue_of_hold {s : State} {b : Bed} (hold : (s.consumables.get b).state = .hold) :
    s.permitDue b = false := by
  simp [State.permitDue, permitConditions, State.permitMet, hold]

/-- R115. -/
theorem State.permitDue_of_fault {s : State} {b : Bed} (fault : (s.arcs.get b).fault.isSome = true) :
    s.permitDue b = false := by
  simp [State.permitDue, permitConditions, State.permitMet, Option.isSome_iff_ne_none.1 fault]

/-- R148. -/
theorem State.motionDue_of_arcFault {s : State} {e : Nat} {o : Order} (at_e : s.orderAt e = some o)
    (fault : o.causes.arcFault = true) : s.motionDue o.crane = false := by
  have faulted : s.arcFaulted o.crane = true :=
    List.any_eq_true.2 ⟨(e, o), State.mem_orders at_e, by simp [fault]⟩
  simp [State.motionDue, motionConditions, State.motionMet, faulted]

theorem State.evalMotions_get (s : State) (c : Crane) : s.evalMotions.motion.get c = s.motionDue c := by
  cases c <;> rfl

/-! ### The ground of the hall -/

/-- The state without the fields that an order's halt or a bed's quiescence may write: the notice queues, the lines, the sessions,
the runway and the order table. Two states of one ground agree in every other field. -/
def State.ground (s : State) : State :=
  { s with
    links := State.reset.links, quiesce := State.reset.quiesce, permit := State.reset.permit, beacon := State.reset.beacon
    runway := State.reset.runway, motion := State.reset.motion, shared := State.reset.shared }

@[simp] theorem State.notify_ground (s : State) (l : Link) (n : Notice) : (s.notify l n).ground = s.ground :=
  (congrArg State.ground (s.notify_frame l n) :)

@[simp] theorem State.modOrder_ground (s : State) (e : Nat) (f : Order → Order) : (s.modOrder e f).ground = s.ground :=
  (congrArg State.ground (s.modOrder_frame e f) :)

@[simp] theorem State.evalPermit_ground (s : State) (b : Bed) : (s.evalPermit b).ground = s.ground :=
  (congrArg State.ground (s.evalPermit_frame b) :)

@[simp] theorem State.modQuiesce_ground (s : State) (b : Bed) (f : Quiesce → Quiesce) :
    (s.modQuiesce b f).ground = s.ground := rfl

@[simp] theorem State.setQuiesce_ground (s : State) (b : Bed) (f : Quiesce → Quiesce) :
    (s.setQuiesce b f).ground = s.ground :=
  (congrArg State.ground (s.setQuiesce_frame b f) :)

@[simp] theorem State.closeSession_ground (s : State) (b : Bed) : (s.closeSession b).ground = s.ground :=
  (congrArg State.ground (s.closeSession_frame b) :)

@[simp] theorem State.evalMotions_ground (s : State) : s.evalMotions.ground = s.ground := rfl

@[simp] theorem State.dropRequest_ground (s : State) (o : Order) : (s.dropRequest o).ground = s.ground := rfl

@[simp] theorem State.becomeHalted_ground (s : State) (e : Nat) (p : Phase) (k : CauseSet) :
    (s.becomeHalted e p k).ground = s.ground :=
  (congrArg State.ground (s.becomeHalted_frame e p k) :)

@[simp] theorem State.setCauses_ground (s : State) (e : Nat) (k : CauseSet) : (s.setCauses e k).ground = s.ground :=
  (congrArg State.ground (s.setCauses_frame e k) :)

@[simp] theorem State.enterStage_ground (s : State) (e : Nat) (st : Stage) : (s.enterStage e st).ground = s.ground :=
  (congrArg State.ground (s.enterStage_frame e st) :)

@[simp] theorem State.enterGranted_ground (s : State) (e : Nat) (p : Phase) (k : CauseSet) :
    (s.enterGranted e p k).ground = s.ground := by
  unfold State.enterGranted
  split
  · split <;> simp [State.notifyCrane]
  · rfl

@[simp] theorem doLeave_ground (s : State) (b : Bed) (h : Holder) : (doLeave s b h).1.ground = s.ground := by
  simp only [doLeave]
  split
  · split <;> simp
  · rfl

/-! ### Agendas that come to an end -/

/-- The tasks ts, with all that follows from them, are n tasks and lead from s to t, whatever stands behind them. -/
def Works (n : Nat) (ts : List Task) (s t : State) : Prop :=
  ∀ (m : Nat) (rest : List Task), runAgenda (n + m) (ts ++ rest) s = runAgenda m rest t

theorem Works.nil (s : State) : Works 0 [] s s := fun m rest => by rw [Nat.zero_add, List.nil_append]

theorem Works.task {n : Nat} {t : Task} {s u : State} (follow : Works n (perform t s).2 (perform t s).1 u) :
    Works (n + 1) [t] s u := fun m rest => by
  rw [Nat.add_right_comm]
  exact follow m rest

theorem Works.append {n m : Nat} {ts us : List Task} {s t u : State} (first : Works n ts s t) (second : Works m us t u) :
    Works (n + m) (ts ++ us) s u := fun k rest => by
  rw [Nat.add_assoc, List.append_assoc, first, second]

/-- An agenda that ends within the bound is worked off whole (log 11). -/
theorem Works.settle {n : Nat} {ts : List Task} {s t : State} (works : Works n ts s t) (bound : n ≤ agendaBound) :
    s.settle ts = t := by
  have run := works (agendaBound - n) []
  rw [Nat.add_sub_cancel' bound, List.append_nil] at run
  rw [State.settle, run]
  cases agendaBound - n <;> rfl

/-! ### The order table after a halt -/

theorem State.entry_modOrder {s : State} {e : Nat} {o : Order} (at_e : s.orderAt e = some o) (f : Order → Order) (d : Nat) :
    (s.modOrder e f).entry d = if d = e then some (.order (f o)) else s.entry d := by
  simp only [State.modOrder, at_e]
  exact State.entry_setEntry s e d _ (State.entry_range (State.orderAt_eq_some_iff.1 at_e))

/-- The order as a halt leaves it (R163). -/
def Order.haltedIn (o : Order) (p : Phase) (causes : CauseSet) : Order :=
  { o with stage := .halted, remembered := p, causes := causes, timer := none, redirect := none }

theorem State.entry_becomeHalted {s : State} {e : Nat} {o : Order} (at_e : s.orderAt e = some o) (p : Phase) (k : CauseSet)
    (d : Nat) : (s.becomeHalted e p k).entry d = if d = e then some (.order (o.haltedIn p k)) else s.entry d := by
  simp only [State.becomeHalted, at_e, State.notifyCrane]
  rw [← State.entry_setEntry s e d _ (State.entry_range (State.orderAt_eq_some_iff.1 at_e))]
  exact State.entry_of_shared (by simp [Order.haltedIn]) d

theorem State.entry_setCauses {s : State} {e : Nat} {o : Order} (at_e : s.orderAt e = some o) (k : CauseSet) (d : Nat) :
    (s.setCauses e k).entry d = if d = e then some (.order { o with causes := k }) else s.entry d := by
  simp only [State.setCauses, at_e]
  split
  · next same =>
    subst same
    split
    · next here => rw [here, State.orderAt_eq_some_iff.1 at_e]
    · rfl
  · rw [← State.entry_modOrder at_e fun o => { o with causes := k }]
    exact State.entry_of_shared (by simp [State.notifyCrane]) d

@[simp] theorem State.closeSession_shared (s : State) (b : Bed) : (s.closeSession b).shared = s.shared :=
  (congrArg State.shared (s.closeSession_frame b) :)

@[simp] theorem doLeave_shared (s : State) (b : Bed) (h : Holder) : (doLeave s b h).1.shared = s.shared := by
  simp only [doLeave]
  split
  · split <;> simp [State.modQuiesce]
  · rfl

theorem doLeave_ends (s : State) (b : Bed) (h : Holder) : (doLeave s b h).2 = [] := by
  simp only [doLeave]
  split
  · split <;> rfl
  · rfl

/-! ### What a fault does to an order -/

/-- The stage that an order remembers which a fault halts (R163). -/
def Order.phaseLeft (o : Order) : Phase :=
  match o.stage with
  | .pickup => .pickup
  | .carry => .carry
  | _ => .reserving

/-- The order is in PICKUP or CARRY, or in RESERVING outside a REDIRECT's wait. -/
def Order.Runs (o : Order) : Prop := o.stage = .pickup ∨ o.stage = .carry ∨ (o.stage = .reserving ∧ o.redirect = none)

/-- What becomes of an order that is given BREACH or ARC_FAULT (R97, R141, R163): outside a REDIRECT's wait it is HALTED with the
cause, HALTED it gains the cause, and in every stage but QUEUED it holds the cause afterwards. -/
structure Order.TakesFault (k : Cause) (o o' : Order) : Prop where
  halts : o.Runs → o' = o.haltedIn o.phaseLeft (CauseSet.only k)
  gains : o.stage = .halted → o' = { o with causes := o.causes.add k }
  holds : o.stage ≠ .queued → o'.crane = o.crane ∧ o'.causes.has k = true

theorem CauseSet.has_add (a : CauseSet) (k : Cause) : (a.add k).has k = true := by
  cases k <;> rfl

/-- A fault of a REDIRECT's wait stays beside the MISPLACED that the giving up adds (R157). -/
theorem CauseSet.has_given_up (a : CauseSet) (k : Cause) : ((a.union (CauseSet.only k)).add .misplaced).has k = true := by
  cases k <;> simp [CauseSet.has, CauseSet.add, CauseSet.put, CauseSet.union, CauseSet.only]

theorem Order.takesFault_halts {o : Order} {k : Cause} (runs : o.Runs) :
    o.TakesFault k (o.haltedIn o.phaseLeft (CauseSet.only k)) :=
  ⟨fun _ => rfl, fun halted => by simp [Order.Runs, halted] at runs, fun _ => ⟨rfl, CauseSet.has_add _ k⟩⟩

theorem Order.takesFault_gains {o : Order} {k : Cause} (halted : o.stage = .halted) :
    o.TakesFault k { o with causes := o.causes.add k } :=
  ⟨fun runs => by simp [Order.Runs, halted] at runs, fun _ => rfl, fun _ => ⟨rfl, CauseSet.has_add _ k⟩⟩

theorem Order.takesFault_queued {o : Order} {k : Cause} (queued : o.stage = .queued) : o.TakesFault k o :=
  ⟨fun runs => by simp [Order.Runs, queued] at runs, fun halted => by simp [queued] at halted, fun moves => absurd queued moves⟩

/-- What the faults of the orders at the entries es come to: each order takes its fault, the other entries stand, and the hall is
left as it is beside queues, lines, sessions and runway. -/
structure FaultsTaken (es : List Nat) (k : Cause) (s t : State) : Prop where
  ground : t.ground = s.ground
  others : ∀ d, d ∉ es → t.entry d = s.entry d
  taken : ∀ e ∈ es, ∀ o, s.orderAt e = some o → ∃ o', t.orderAt e = some o' ∧ o.TakesFault k o'

theorem FaultsTaken.of_entry {e : Nat} {k : Cause} {s t : State} {o o' : Order} (at_e : s.orderAt e = some o)
    (ground : t.ground = s.ground) (entry : ∀ d, t.entry d = if d = e then some (.order o') else s.entry d)
    (takes : o.TakesFault k o') : FaultsTaken [e] k s t where
  ground := ground
  others d other := by rw [entry, if_neg (by simpa using other)]
  taken d here p at_d := by
    obtain rfl : d = e := by simpa using here
    obtain rfl : o = p := Option.some.inj (at_e.symm.trans at_d)
    exact ⟨o', State.orderAt_eq_some_iff.2 (by rw [entry, if_pos rfl]), takes⟩

theorem FaultsTaken.cons {e : Nat} {es : List Nat} {k : Cause} {s u t : State} (first : FaultsTaken [e] k s u)
    (rest : FaultsTaken es k u t) (new : e ∉ es) : FaultsTaken (e :: es) k s t where
  ground := rest.ground.trans first.ground
  others d other := by
    rw [List.mem_cons, not_or] at other
    rw [rest.others d other.2, first.others d (by simpa using other.1)]
  taken d here o at_d := by
    rcases List.mem_cons.1 here with rfl | later
    · obtain ⟨o', at_u, takes⟩ := first.taken d (by simp) o at_d
      exact ⟨o', by rw [State.orderAt_of_entry (rest.others d new), at_u], takes⟩
    · have apart : d ≠ e := fun same => new (same ▸ later)
      exact rest.taken d later o (by rw [State.orderAt_of_entry (first.others d (by simpa using apart)), at_d])

/-! ### The agenda of the faults -/

theorem works_leaves (h : Holder) (bs : List Bed) (s : State) :
    ∃ t, Works bs.length (bs.map (Task.leave · h)) s t ∧ t.ground = s.ground ∧ t.shared = s.shared := by
  induction bs generalizing s with
  | nil => exact ⟨s, Works.nil s, rfl, rfl⟩
  | cons b bs ih =>
    obtain ⟨t, works, ground, shared⟩ := ih (doLeave s b h).1
    have leave : Works (0 + 1) [.leave b h] s (doLeave s b h).1 :=
      Works.task (by rw [perform, doLeave_ends]; exact Works.nil _)
    refine ⟨t, ?_, by rw [ground, doLeave_ground], by rw [shared, doLeave_shared]⟩
    rw [List.length_cons, Nat.add_comm]
    exact leave.append works

/-- The order with the figures it had before a REDIRECT, once the runway controller has cleared the new ones (R157, log 38). -/
def Order.resized (o : Order) (r : Redirect) : Order := { o with sweep := if r.cleared then r.before else o.sweep }

/-- R157: a REDIRECT that is given up leaves its order HALTED with MISPLACED besides, and the beds joined for it are left. -/
theorem doGiveUp_redirect {s : State} {e : Nat} {o : Order} {r : Redirect} (at_e : s.orderAt e = some o)
    (redirect : o.redirect = some r) (causes : CauseSet) :
    ∃ u o', doGiveUp s e causes = (u, (allBeds.filter fun b => r.joined.get b).map (Task.leave · (.order o.ref))) ∧
      u.ground = s.ground ∧ (∀ d, u.entry d = if d = e then some (.order o') else s.entry d) ∧ o'.crane = o.crane ∧
      o'.causes = (o.causes.union causes).add .misplaced := by
  have resized := State.entry_modOrder (s := s.dropRequest o) at_e (·.resized r)
  have halted := State.entry_becomeHalted (State.orderAt_eq_some_iff.2 ((resized e).trans (if_pos rfl))) o.remembered
    ((o.causes.union causes).add .misplaced)
  refine ⟨((s.dropRequest o).modOrder e (·.resized r)).becomeHalted e o.remembered ((o.causes.union causes).add .misplaced),
    (o.resized r).haltedIn o.remembered ((o.causes.union causes).add .misplaced), ?_, by simp, fun d => ?_, rfl, rfl⟩
  · simp only [doGiveUp, at_e, redirect]
    rfl
  · rw [halted, resized]
    split <;> rfl

/-- R163: what the fault of one order comes to. -/
theorem works_fault (k : Cause) (e : Nat) (s : State) :
    ∃ n ≤ 4, ∃ t, Works n [.fault e k] s t ∧ FaultsTaken [e] k s t := by
  have ends {t : State} (done : doFault s e k = (t, [])) : Works (0 + 1) [.fault e k] s t :=
    Works.task (by rw [perform, done]; exact Works.nil t)
  cases at_e : s.orderAt e with
  | none =>
    refine ⟨_, by decide, s, ends (by simp only [doFault, at_e]), rfl, fun _ _ => rfl, fun d here o at_d => ?_⟩
    obtain rfl : d = e := by simpa using here
    rw [at_e] at at_d
    cases at_d
  | some o =>
    have halts (done : doFault s e k = (s.becomeHalted e o.phaseLeft (CauseSet.only k), [])) (runs : o.Runs) :
        ∃ n ≤ 4, ∃ t, Works n [.fault e k] s t ∧ FaultsTaken [e] k s t :=
      ⟨_, by decide, _, ends done,
        .of_entry at_e (by simp) (State.entry_becomeHalted at_e _ _) (Order.takesFault_halts runs)⟩
    cases stage : o.stage with
    | pickup => exact halts (by simp only [doFault, at_e, Order.phaseLeft, stage]) (.inl stage)
    | carry => exact halts (by simp only [doFault, at_e, Order.phaseLeft, stage]) (.inr (.inl stage))
    | halted =>
      exact ⟨_, by decide, _, ends (by simp only [doFault, at_e, stage]),
        .of_entry at_e (by simp) (State.entry_setCauses at_e _) (Order.takesFault_gains stage)⟩
    | queued =>
      refine ⟨_, by decide, s, ends (by simp only [doFault, at_e, stage]),
        .of_entry at_e rfl (fun d => ?_) (Order.takesFault_queued stage)⟩
      split
      · next here => rw [here, State.orderAt_eq_some_iff.1 at_e]
      · rfl
    | reserving =>
      cases redirect : o.redirect with
      | none => exact halts (by simp [doFault, at_e, Order.phaseLeft, stage, redirect]) (.inr (.inr ⟨stage, redirect⟩))
      | some r =>
        obtain ⟨u, o', given, kept, entry, crane, causes⟩ := doGiveUp_redirect at_e redirect (CauseSet.only k)
        obtain ⟨t, works, ground, shared⟩ := works_leaves (.order o.ref) (allBeds.filter fun b => r.joined.get b) u
        have asks : perform (.fault e k) s = (s, [.giveUp e (CauseSet.only k)]) := by
          simp [perform, doFault, at_e, stage, redirect]
        refine ⟨_, ?_, t, Works.task (by rw [asks]; exact Works.task (by rw [perform, given]; exact works)),
          .of_entry at_e (ground.trans kept) (fun d => (State.entry_of_shared shared d).trans (entry d)) ?_⟩
        · have two := List.length_filter_le (fun b => r.joined.get b) allBeds
          simp only [allBeds, List.length_cons, List.length_nil] at two ⊢
          omega
        · exact ⟨fun runs => by simp [Order.Runs, stage, redirect] at runs, fun halted => by simp [stage] at halted,
            fun _ => ⟨crane, causes ▸ CauseSet.has_given_up _ k⟩⟩

theorem works_faults (k : Cause) (es : List Nat) (nodup : es.Nodup) (s : State) :
    ∃ n ≤ 4 * es.length, ∃ t, Works n (es.map (Task.fault · k)) s t ∧ FaultsTaken es k s t := by
  induction es generalizing s with
  | nil => exact ⟨0, Nat.le_refl 0, s, Works.nil s, rfl, fun _ _ => rfl, fun _ here => (nomatch here)⟩
  | cons e es ih =>
    obtain ⟨new, nodup⟩ := List.nodup_cons.1 nodup
    obtain ⟨n, short, u, works, taken⟩ := works_fault k e s
    obtain ⟨m, shorts, t, rest, takens⟩ := ih nodup u
    exact ⟨n + m, by rw [List.length_cons]; omega, t, works.append rest, taken.cons takens new⟩

/-- The faults of all orders of the table end within the bound of the agenda (R175, log 11). -/
theorem State.settle_faults (s : State) (k : Cause) {es : List Nat} (nodup : es.Nodup) (short : es.length ≤ 6) :
    FaultsTaken es k s (s.settle (es.map (Task.fault · k))) := by
  obtain ⟨n, le, t, works, taken⟩ := works_faults k es nodup s
  rw [works.settle (by simp only [agendaBound]; omega)]
  exact taken

/-! ### The entries of some orders -/

def State.entriesOf (s : State) (keep : Order → Bool) : List Nat := (s.orders.filter fun q => keep q.2).map (·.1)

theorem State.entriesOf_nodup (s : State) (keep : Order → Bool) : (s.entriesOf keep).Nodup := by
  refine (List.filter_sublist.map _).nodup ?_
  rw [State.orders, List.map_filterMap]
  refine List.Nodup.filterMap (fun a d e here there => ?_) (by decide)
  simp only [Option.map_map, Option.mem_map, Function.comp] at here there
  obtain ⟨_, _, rfl⟩ := here
  obtain ⟨_, _, rfl⟩ := there
  rfl

theorem State.entriesOf_length (s : State) (keep : Order → Bool) : (s.entriesOf keep).length ≤ 6 := by
  rw [State.entriesOf, List.length_map]
  exact (List.length_filter_le _ _).trans (List.length_filterMap_le _ sharedNumbers)

theorem State.mem_entriesOf {s : State} {keep : Order → Bool} {e : Nat} {o : Order} (at_e : s.orderAt e = some o) :
    e ∈ s.entriesOf keep ↔ keep o = true := by
  simp only [State.entriesOf, List.mem_map, List.mem_filter]
  constructor
  · rintro ⟨⟨d, p⟩, ⟨mem, kept⟩, rfl⟩
    obtain rfl : o = p := Option.some.inj (at_e.symm.trans (State.orders_mem mem).2)
    exact kept
  · exact fun kept => ⟨(e, o), ⟨State.mem_orders at_e, kept⟩, rfl⟩

/-! ### Records after a change -/

/-- A live handle names its slot by index alone: another handle of that index is stale (R2). -/
theorem State.recordOf_modRecord (s : State) (h : Handle) (f : Record → Record) (a : Handle) :
    (s.modRecord h f).recordOf a = if a = h then (s.recordOf h).map f else s.recordOf a := by
  cases live : s.recordOf h with
  | none =>
    simp only [State.modRecord, live]
    split
    · next same => rw [same, live]; rfl
    · rfl
  | some q =>
    obtain ⟨gen, content⟩ := State.recordOf_some live
    have bound : h.index < Config.slotCount := by
      by_contra out
      rw [State.slot, Vector.getElem?_eq_none (Nat.le_of_not_lt out)] at content
      cases content
    have written : s.modRecord h f = s.setSlot h.index ⟨h.gen, some (f q)⟩ := by simp only [State.modRecord, live]
    rw [written, Option.map_some, State.recordOf, State.recordOf, State.slot_setSlot _ _ _ _ bound]
    by_cases index : a.index = h.index
    · obtain ⟨_, d⟩ := a
      subst index
      by_cases same : h.gen = d
      · simp [← same]
      · have other : (⟨h.index, d⟩ : Handle) ≠ h := fun eq => same (congrArg Handle.gen eq).symm
        simp [same, other, gen]
    · have other : a ≠ h := fun same => index (congrArg Handle.index same)
      simp only [index, other, if_false]

theorem State.recordOf_of_ground {s t : State} (same : t.ground = s.ground) (h : Handle) : t.recordOf h = s.recordOf h :=
  State.recordOf_of_slots (congrArg State.slots same :) h

theorem State.quarantineAll_frame (s : State) (hs : List Handle) : { s.quarantineAll hs with slots := s.slots } = s :=
  foldl_keeps (P := fun t => { t with slots := s.slots } = s) _
    (fun t h kept => (congrArg (fun u : State => { u with slots := s.slots }) (t.modRecord_frame h _)).trans kept) hs s rfl

@[simp] theorem State.quarantineAll_shared (s : State) (hs : List Handle) : (s.quarantineAll hs).shared = s.shared :=
  (congrArg State.shared (s.quarantineAll_frame hs) :)

theorem State.recordOf_quarantineAll (s : State) (hs : List Handle) (a : Handle) :
    (s.quarantineAll hs).recordOf a =
      if a ∈ hs then (s.recordOf a).map ({ · with quarantine := true }) else s.recordOf a := by
  induction hs generalizing s with
  | nil => simp [State.quarantineAll]
  | cons h hs ih =>
    refine (ih (s.modRecord h fun r => { r with quarantine := true })).trans ?_
    rw [State.recordOf_modRecord]
    by_cases same : a = h
    · subst same
      simp [Function.comp_def]
    · simp [same]

/-! ### The end of a recall -/

theorem State.recallOf_entry {s : State} {h : Handle} {e : Nat} {r : Recall} (found : s.recallOf h = some (e, r)) :
    s.entry e = some (.recall r) := by
  obtain ⟨d, _, here⟩ := List.mem_filterMap.1 (List.mem_of_find?_eq_some found)
  split at here
  · next entry =>
    cases here
    exact entry
  · cases here

theorem State.recallOf_of_shared {s t : State} (same : t.shared = s.shared) (h : Handle) : t.recallOf h = s.recallOf h := by
  simp only [State.recallOf, State.recalls, State.entry, same]

theorem State.endRecall_none {s : State} {h : Handle} (none : s.recallOf h = none) (k : RecallOutcome) :
    s.endRecall h k = s := by
  simp only [State.endRecall, none]

theorem State.endRecall_some {s : State} {h : Handle} {e : Nat} {r : Recall} (found : s.recallOf h = some (e, r))
    (k : RecallOutcome) :
    s.endRecall h k = (s.setEntry e none).notify .office (.recallEnd r.tag h k (s.custodyOf h)) := by
  simp only [State.endRecall, found]

@[simp] theorem State.endRecall_slots (s : State) (h : Handle) (k : RecallOutcome) : (s.endRecall h k).slots = s.slots :=
  (congrArg State.slots (s.endRecall_frame h k) :)

/-- The entry a recall frees is no order's (R175). -/
theorem State.orderAt_endRecall {s : State} {e : Nat} {o : Order} (at_e : s.orderAt e = some o) (h : Handle)
    (k : RecallOutcome) : (s.endRecall h k).orderAt e = some o := by
  rw [State.orderAt_eq_some_iff] at at_e ⊢
  cases found : s.recallOf h with
  | none => rw [State.endRecall_none found, at_e]
  | some q =>
    obtain ⟨d, r⟩ := q
    have freed := State.recallOf_entry found
    have apart : e ≠ d := by
      rintro rfl
      rw [at_e] at freed
      cases freed
    rw [State.endRecall_some found, State.entry_of_shared (State.notify_shared ..),
      State.entry_setEntry s d e _ (State.entry_range freed), if_neg apart, at_e]

/-! ### A claimed record becomes WORKED (R50) -/

theorem State.notify_links_congr {s t : State} (links : t.links = s.links) (mask : t.mask = s.mask) (l : Link) (n : Notice) :
    (t.notify l n).links = (s.notify l n).links := by
  have wanted : t.noticeWanted l n = s.noticeWanted l n := by
    cases l <;> simp only [State.noticeWanted, mask]
  rw [State.notify_links, State.notify_links, links, wanted]

/-- All that workClaim does: the claimed record still CLAIMED becomes WORKED and its recall ends KEPT, or nothing. -/
theorem State.workClaim_cases (s : State) (b : Bed) :
    (∃ n, s.claims.get b = some n ∧ s.custodyOf n.plate = some (.claimed b) ∧
      s.workClaim b = (s.setCustody n.plate (.worked b)).endRecall n.plate .kept) ∨
    ((∀ n, s.claims.get b = some n → s.custodyOf n.plate ≠ some (.claimed b)) ∧ s.workClaim b = s) := by
  unfold State.workClaim
  split
  · next n claim =>
    split
    · next held => exact .inl ⟨n, claim, held, rfl⟩
    · next loose =>
      refine .inr ⟨fun m other => ?_, rfl⟩
      obtain rfl : n = m := Option.some.inj (claim.symm.trans other)
      exact loose
  · next none => exact .inr ⟨fun n claim => (nomatch none.symm.trans claim), rfl⟩

theorem State.workClaim_frame (s : State) (b : Bed) :
    { s.workClaim b with slots := s.slots, shared := s.shared, links := s.links } = s := by
  rcases s.workClaim_cases b with ⟨n, _, _, worked⟩ | ⟨_, same⟩
  · rw [worked]
    exact (congrArg (fun u : State => { u with slots := s.slots, shared := s.shared, links := s.links })
      ((s.setCustody n.plate (.worked b)).endRecall_frame n.plate .kept) :).trans
        (congrArg (fun u : State => { u with shared := s.shared, links := s.links })
          (s.setCustody_frame n.plate (.worked b)) :)
  · rw [same]

theorem State.workClaim_claimed {s : State} {b : Bed} {n : Nest} {q : Record} (claim : s.claims.get b = some n)
    (live : s.recordOf n.plate = some q) (held : q.custody = .claimed b) :
    s.workClaim b = (s.setCustody n.plate (.worked b)).endRecall n.plate .kept := by
  simp [State.workClaim, claim, State.custodyOf, live, held]

theorem State.workClaim_none {s : State} {b : Bed} (none : s.claims.get b = none) : s.workClaim b = s := by
  simp only [State.workClaim, none]

@[simp] theorem State.setCustody_shared (s : State) (h : Handle) (k : Custody) : (s.setCustody h k).shared = s.shared :=
  (congrArg State.shared (s.setCustody_frame h k) :)

@[simp] theorem State.setCustody_links (s : State) (h : Handle) (k : Custody) : (s.setCustody h k).links = s.links :=
  (congrArg State.links (s.setCustody_frame h k) :)

theorem State.recordOf_setCustody_same {s : State} {h : Handle} {q : Record} (live : s.recordOf h = some q) (k : Custody) :
    (s.setCustody h k).recordOf h = some { q with custody := k } := by
  rw [State.setCustody, State.recordOf_modRecord, if_pos rfl, live]
  rfl

theorem State.recordOf_workClaim_claimed {s : State} {b : Bed} {n : Nest} {q : Record} (claim : s.claims.get b = some n)
    (live : s.recordOf n.plate = some q) (held : q.custody = .claimed b) :
    (s.workClaim b).recordOf n.plate = some { q with custody := .worked b } := by
  rw [State.workClaim_claimed claim live held, State.recordOf_of_slots (State.endRecall_slots ..),
    State.recordOf_setCustody_same live]

theorem State.recordOf_workClaim_other {s : State} {b : Bed} {h : Handle}
    (other : ∀ n, s.claims.get b = some n → h ≠ n.plate) : (s.workClaim b).recordOf h = s.recordOf h := by
  rcases s.workClaim_cases b with ⟨n, claim, _, worked⟩ | ⟨_, same⟩
  · rw [worked, State.recordOf_of_slots (State.endRecall_slots ..), State.setCustody, State.recordOf_modRecord,
      if_neg (other n claim)]
  · rw [same]

/-- WORKED or not, a record keeps its quarantine flag. -/
theorem State.quarantine_workClaim {s : State} {h : Handle} {q : Record} (live : s.recordOf h = some q) (b : Bed) :
    ∃ q', (s.workClaim b).recordOf h = some q' ∧ q'.quarantine = q.quarantine := by
  rcases s.workClaim_cases b with ⟨n, _, _, worked⟩ | ⟨_, same⟩
  · rw [worked, State.recordOf_of_slots (State.endRecall_slots ..), State.setCustody, State.recordOf_modRecord]
    split
    · next here => exact ⟨{ q with custody := .worked b }, by rw [← here, live]; rfl, rfl⟩
    · exact ⟨q, live, rfl⟩
  · exact ⟨q, by rw [same, live], rfl⟩

theorem State.orderAt_workClaim {s : State} {e : Nat} {o : Order} (at_e : s.orderAt e = some o) (b : Bed) :
    (s.workClaim b).orderAt e = some o := by
  rcases s.workClaim_cases b with ⟨n, _, _, worked⟩ | ⟨_, same⟩
  · rw [worked]
    refine State.orderAt_endRecall ?_ ..
    rw [State.orderAt_of_entry (State.entry_of_shared (State.setCustody_shared ..) e), at_e]
  · rw [same, at_e]

theorem State.workClaim_unclaimed {s : State} {b : Bed}
    (unclaimed : ∀ n, s.claims.get b = some n → s.custodyOf n.plate ≠ some (.claimed b)) : s.workClaim b = s := by
  rcases s.workClaim_cases b with ⟨n, claim, held, _⟩ | ⟨_, same⟩
  · exact absurd held (unclaimed n claim)
  · exact same

/-- R63: the recall of a record that becomes WORKED ends KEPT, and the office hears of the custody after it. -/
theorem State.workClaim_ends_recall {s : State} {b : Bed} {n : Nest} {q : Record} {e : Nat} {c : Recall}
    (claim : s.claims.get b = some n) (live : s.recordOf n.plate = some q) (held : q.custody = .claimed b)
    (found : s.recallOf n.plate = some (e, c)) :
    (s.workClaim b).entry e = none ∧
      (s.workClaim b).links = (s.notify .office (.recallEnd c.tag n.plate .kept (some (.worked b)))).links := by
  have still : (s.setCustody n.plate (.worked b)).recallOf n.plate = some (e, c) :=
    (State.recallOf_of_shared (State.setCustody_shared ..) _).trans found
  have custody : (s.setCustody n.plate (.worked b)).custodyOf n.plate = some (.worked b) := by
    rw [State.custodyOf, State.recordOf_setCustody_same live]
    rfl
  have entry := State.setEntry_frame (s.setCustody n.plate (.worked b)) e none
  have record := State.setCustody_frame s n.plate (.worked b)
  rw [State.workClaim_claimed claim live held, State.endRecall_some still, custody]
  constructor
  · rw [State.entry_of_shared (State.notify_shared ..), State.entry_setEntry _ _ _ _
      (State.entry_range (State.recallOf_entry found)), if_pos rfl]
  · exact State.notify_links_congr (t := (s.setCustody n.plate (.worked b)).setEntry e none) (s := s)
      ((congrArg State.links entry :).trans (congrArg State.links record :))
      ((congrArg State.mask entry :).trans (congrArg State.mask record :)) ..

theorem State.workClaim_without_recall {s : State} {b : Bed} {n : Nest} {q : Record} (claim : s.claims.get b = some n)
    (live : s.recordOf n.plate = some q) (held : q.custody = .claimed b) (none : s.recallOf n.plate = none) :
    (s.workClaim b).shared = s.shared ∧ (s.workClaim b).links = s.links := by
  rw [State.workClaim_claimed claim live held,
    State.endRecall_none ((State.recallOf_of_shared (State.setCustody_shared ..) _).trans none)]
  exact ⟨State.setCustody_shared .., State.setCustody_links ..⟩

/-! ### An unpermitted arc -/

/-- The bed's fault latched at this moment (R97). -/
def State.latched (s : State) (b : Bed) : State := s.modArc b fun a => { a with fault := some s.hallTime }

/-- What an unpermitted edge does before the orders hear of it: the latch, the claim and the burnt records (R97, R98). -/
def State.scorched (s : State) (b : Bed) : State := ((s.latched b).workClaim b).quarantineAll (s.burntRecords b)

theorem State.scorched_frame (s : State) (b : Bed) :
    { s.scorched b with slots := s.slots, shared := s.shared, links := s.links } = s.latched b :=
  (congrArg (fun u : State => { u with slots := s.slots, shared := s.shared, links := s.links })
    (((s.latched b).workClaim b).quarantineAll_frame (s.burntRecords b)) :).trans ((s.latched b).workClaim_frame b)

theorem State.orderAt_scorched {s : State} {e : Nat} {o : Order} (at_e : s.orderAt e = some o) (b : Bed) :
    (s.scorched b).orderAt e = some o := by
  rw [State.scorched, State.orderAt_of_entry (State.entry_of_shared (State.quarantineAll_shared ..) e)]
  exact State.orderAt_workClaim (s := s.latched b) at_e b

theorem State.recordOf_scorched_unclaimed {s : State} {b : Bed} (none : s.claims.get b = none) (h : Handle) :
    (s.scorched b).recordOf h =
      if h ∈ s.activeRecords b then (s.recordOf h).map ({ · with quarantine := true }) else s.recordOf h := by
  rw [State.scorched, State.workClaim_none (s := s.latched b) none, State.recordOf_quarantineAll, State.burntRecords, none]
  rfl

theorem State.recordOf_scorched_claimed {s : State} {b : Bed} (claimed : s.claims.get b ≠ none) (h : Handle) :
    (s.scorched b).recordOf h = ((s.latched b).workClaim b).recordOf h := by
  have unburnt : s.burntRecords b = [] := if_neg (by simpa using claimed)
  rw [State.scorched, unburnt]
  rfl

theorem State.unpermittedArc_eq (s : State) (b : Bed) :
    s.unpermittedArc b =
      (((((s.scorched b).settle ((s.entriesOf (s.holdsBed · b)).map (Task.fault · .arcFault))).evalMotions.evalPermit b).notify
        (.bed b) (s.faultNotice b)).notify .office (s.faultNotice b)) := by
  rw [State.entriesOf, List.map_map]
  rfl

/-- R97: the orders in the bed's holder set take the fault, then MOTION ENABLE and ARC PERMIT follow, and nothing but notices
comes after. -/
theorem State.unpermittedArc_ends (s : State) (b : Bed) :
    ∃ u, FaultsTaken (s.entriesOf (s.holdsBed · b)) .arcFault (s.scorched b) u ∧ (s.unpermittedArc b).ground = u.ground ∧
      (s.unpermittedArc b).shared = u.shared ∧ (∀ c, (s.unpermittedArc b).motion.get c = u.motionDue c) ∧
      (s.unpermittedArc b).permit.get b = u.permitDue b := by
  have faults := State.settle_faults (s.scorched b) .arcFault (s.entriesOf_nodup (s.holdsBed · b))
    (s.entriesOf_length (s.holdsBed · b))
  rw [State.unpermittedArc_eq]
  generalize (s.scorched b).settle _ = u at faults ⊢
  refine ⟨u, faults, by simp, ?_, fun c => ?_, ?_⟩
  · rw [State.notify_shared, State.notify_shared, State.evalPermit_shared]
    rfl
  · rw [State.notify_motion, State.notify_motion, State.evalPermit_motion, State.evalMotions_get]
  · rw [State.notify_permit, State.notify_permit, State.evalPermit_permit, PerBed.get_set_same]
    rfl

/-! ### Rising edges -/

/-- The state in which a rising edge is judged: the arc is ON from this moment (R89). -/
def State.risen (s : State) (b : Bed) : State := s.quiet.modArc b fun a => { a with rise := some s.hallTime }

theorem exec_arcSenseRisingEdge {s : State} {b : Bed} (off : (s.arcs.get b).rise = none) :
    exec (.arcSenseRisingEdge b) s =
      .next (if s.permit.get b then (s.risen b).workClaim b else (s.risen b).unpermittedArc b) :=
  takeEvent_of (holds := fun s => !s.arcOn b) (State.riseArc · b) (by simp [State.arcOn, State.quiet, off])

/-- Settles O17. A permitted edge is workClaim on the risen state. An unpermitted one scorches it, and the faults of the holders
then touch neither records nor places. -/
theorem risingEdgesWorkTheClaimOrLatchTheFault : Obligations.RisingEdgesWorkTheClaimOrLatchTheFault := by
  refine ⟨fun s b off permit => ?permitted, fun s b off deny => ?unpermitted⟩
  case permitted =>
    have frame := (s.risen b).workClaim_frame b
    refine ⟨(s.risen b).workClaim b, by rw [exec_arcSenseRisingEdge off, if_pos permit], (congrArg State.arcs frame :),
      fun n q claim live held => ⟨State.recordOf_workClaim_claimed (s := s.risen b) claim live held, fun e c found => ?_,
        State.workClaim_without_recall (s := s.risen b) claim live held⟩,
      fun h other => State.recordOf_workClaim_other (s := s.risen b) other, fun unclaimed => ?_,
      (congrArg (fun u : State => { u with arcs := s.arcs }) frame :)⟩
    · obtain ⟨freed, notified⟩ := State.workClaim_ends_recall (s := s.risen b) claim live held found
      exact ⟨freed, notified.trans (State.notify_links_congr (t := s.risen b) (s := s) rfl rfl ..)⟩
    · rw [State.workClaim_unclaimed (s := s.risen b) unclaimed]
      exact ⟨rfl, rfl, rfl⟩
  case unpermitted =>
    obtain ⟨u, faults, ground, shared, motion, permit⟩ := (s.risen b).unpermittedArc_ends b
    have moves : exec (.arcSenseRisingEdge b) s = .next ((s.risen b).unpermittedArc b) := by
      rw [exec_arcSenseRisingEdge off, deny, if_neg Bool.false_ne_true]
    generalize (s.risen b).unpermittedArc b = t at moves ground shared motion permit
    have ground := ground.trans faults.ground
    have orders (e : Nat) := State.orderAt_of_entry (State.entry_of_shared shared e)
    have records (h : Handle) := State.recordOf_of_ground ground h
    have whole := (congrArg (fun u : State => { u with slots := s.slots }) ground :).trans
      (congrArg State.ground ((s.risen b).scorched_frame b) :)
    have arcs : ((s.risen b).latched b).arcs = s.arcs.set b { rise := some s.hallTime, fault := some s.hallTime } := by
      simp [State.latched, State.risen, PerBed.set_set, State.quiet]
    have down : u.permitDue b = false := by
      have stands : u.arcs = ((s.risen b).latched b).arcs :=
        (congrArg State.arcs faults.ground :).trans (congrArg State.arcs ((s.risen b).scorched_frame b) :)
      exact State.permitDue_of_fault (by simp [stands, arcs])
    refine ⟨t, moves,
      (congrArg State.arcs whole :).trans arcs, permit.trans down, fun none h here => ?burnt, fun h q live spared => ?spared,
      fun n q claim live held => ?worked, fun e o at_e held => ?held, fun e o at_e free => ?free,
      (congrArg State.piles whole :), (congrArg State.stations whole :), (congrArg State.infeed whole :),
      (congrArg State.hooks whole :), (congrArg State.claims whole :), (congrArg State.consumables whole :),
      (congrArg State.committed whole :)⟩
    case burnt => exact (records h).trans ((State.recordOf_scorched_unclaimed (s := s.risen b) none h).trans (if_pos here))
    case spared =>
      rw [records]
      by_cases none : s.claims.get b = none
      · rw [State.recordOf_scorched_unclaimed (s := s.risen b) none]
        exact ⟨q, (if_neg (spared.resolve_right (absurd none))).trans live, rfl⟩
      · rw [State.recordOf_scorched_claimed (s := s.risen b) none]
        exact State.quarantine_workClaim (s := (s.risen b).latched b) live b
    case worked =>
      have claimed : s.claims.get b ≠ none := by simp [claim]
      exact (records _).trans ((State.recordOf_scorched_claimed (s := s.risen b) claimed _).trans
        (State.recordOf_workClaim_claimed (s := (s.risen b).latched b) claim live held))
    case held =>
      have mem : e ∈ (s.risen b).entriesOf ((s.risen b).holdsBed · b) :=
        (State.mem_entriesOf (s := s.risen b) at_e).2 (decide_eq_true held)
      obtain ⟨o', at_u, takes⟩ := faults.taken e mem o (State.orderAt_scorched (s := s.risen b) at_e b)
      refine ⟨fun runs => (orders e).trans (at_u.trans (congrArg some (takes.halts runs))),
        fun halted => (orders e).trans (at_u.trans (congrArg some (takes.gains halted))), fun active => ?_⟩
      obtain ⟨crane, fault⟩ := takes.holds active
      rw [motion, ← crane]
      exact State.motionDue_of_arcFault at_u fault
    case free =>
      have out : e ∉ (s.risen b).entriesOf ((s.risen b).holdsBed · b) := fun mem =>
        free (of_decide_eq_true ((State.mem_entriesOf (s := s.risen b) at_e).1 mem))
      exact (orders e).trans ((State.orderAt_of_entry (faults.others e out)).trans
        (State.orderAt_scorched (s := s.risen b) at_e b))

/-! ### What a bed's quiescence sets off -/

/-- The tasks that follow when a bed becomes QUIESCED: grants, the orders they settle, and the REDIRECTs they complete. -/
def Task.OfQuiescence : Task → Prop
  | .quiesced _ | .granted _ _ | .settleOrder _ | .leave _ _ | .finishRedirect _ => True
  | _ => False

@[simp] theorem doQuiesced_ground (s : State) (b : Bed) : (doQuiesced s b).1.ground = s.ground := by
  simp only [doQuiesced]
  split <;> simp

@[simp] theorem doGranted_ground (s : State) (b : Bed) (h : Holder) : (doGranted s b h).1.ground = s.ground := by
  unfold doGranted
  repeat' split
  all_goals simp

@[simp] theorem doSettleOrder_ground (s : State) (c : Crane) : (doSettleOrder s c).1.ground = s.ground := by
  unfold doSettleOrder
  repeat' split
  all_goals simp

@[simp] theorem doFinishRedirect_ground (s : State) (e : Nat) : (doFinishRedirect s e).1.ground = s.ground := by
  unfold doFinishRedirect
  repeat' split
  all_goals simp [State.notifyCrane]

theorem Task.OfQuiescence.ground {t : Task} (kind : t.OfQuiescence) (s : State) : (perform t s).1.ground = s.ground := by
  cases t with
  | quiesced b => exact doQuiesced_ground s b
  | granted b h => exact doGranted_ground s b h
  | settleOrder c => exact doSettleOrder_ground s c
  | leave b h => exact doLeave_ground s b h
  | finishRedirect e => exact doFinishRedirect_ground s e
  | _ => exact kind.elim

theorem Task.OfQuiescence.follow {t : Task} (kind : t.OfQuiescence) (s : State) :
    ∀ u ∈ (perform t s).2, u.OfQuiescence := by
  cases t with
  | quiesced b =>
    intro u mem
    obtain ⟨h, _, rfl⟩ := List.mem_map.1 mem
    trivial
  | granted b h =>
    simp only [perform, doGranted]
    repeat' split
    all_goals simp [Task.OfQuiescence]
  | settleOrder c =>
    simp only [perform, doSettleOrder]
    repeat' split
    all_goals simp [or_imp, forall_and, Task.OfQuiescence]
    rintro _ b _ _ _ rfl
    trivial
  | leave b h => simp [perform, doLeave_ends]
  | finishRedirect e =>
    simp only [perform, doFinishRedirect]
    repeat' split
    all_goals simp
  | _ => exact kind.elim

theorem State.settle_quiesced_ground (s : State) (b : Bed) : (s.settle [.quiesced b]).ground = s.ground :=
  runAgenda_keeps_of (P := fun t => t.ground = s.ground) (K := Task.OfQuiescence)
    (fun _ t kind same => (kind.ground t).trans same) (fun _ t kind => kind.follow t) _ _ s (by simp [Task.OfQuiescence]) rfl

/-! ### ARC PERMIT under a consumable HOLD -/

/-- The bed is in consumable HOLD with its ARC PERMIT down, as R115 and R116 leave it. -/
def State.Spent (s : State) (b : Bed) : Prop := (s.consumables.get b).state = .hold ∧ s.permit.get b = false

theorem State.Spent.of_same {s t : State} {b : Bed} (spent : s.Spent b) (ground : t.ground = s.ground)
    (permit : t.permit = s.permit) : t.Spent b := by
  have consumables : t.consumables = s.consumables := (congrArg State.consumables ground :)
  rw [State.Spent, consumables, permit]
  exact spent

theorem State.Spent.notify {s : State} {b : Bed} (spent : s.Spent b) (l : Link) (n : Notice) : (s.notify l n).Spent b :=
  spent.of_same (s.notify_ground l n) (s.notify_permit l n)

theorem State.Spent.setQuiesce {s : State} {b : Bed} (spent : s.Spent b) (a : Bed) (f : Quiesce → Quiesce) :
    (s.setQuiesce a f).Spent b := by
  have consumables : (s.setQuiesce a f).consumables = s.consumables :=
    (congrArg State.consumables (s.setQuiesce_ground a f) :)
  rw [State.Spent, consumables, State.setQuiesce_permit, PerBed.get_set]
  refine ⟨spent.1, ?_⟩
  split
  · next same => exact State.permitDue_of_hold (same ▸ spent.1)
  · exact spent.2

@[simp] theorem State.becomeHalted_permit (s : State) (e : Nat) (p : Phase) (k : CauseSet) :
    (s.becomeHalted e p k).permit = s.permit :=
  (congrArg State.permit (s.becomeHalted_frame e p k) :)

@[simp] theorem State.enterStage_permit (s : State) (e : Nat) (st : Stage) : (s.enterStage e st).permit = s.permit :=
  (congrArg State.permit (s.enterStage_frame e st) :)

@[simp] theorem State.enterGranted_permit (s : State) (e : Nat) (p : Phase) (k : CauseSet) :
    (s.enterGranted e p k).permit = s.permit := by
  unfold State.enterGranted
  split
  · split <;> simp [State.notifyCrane]
  · rfl

theorem Task.OfQuiescence.spent {t : Task} (kind : t.OfQuiescence) {s : State} {b : Bed} (spent : s.Spent b) :
    (perform t s).1.Spent b := by
  cases t with
  | quiesced a =>
    simp only [perform, doQuiesced]
    split
    · exact (spent.setQuiesce a _).notify ..
    · exact spent.setQuiesce a _
  | granted a h =>
    refine spent.of_same (kind.ground s) ?_
    simp only [perform, doGranted]
    repeat' split
    all_goals simp
  | settleOrder c =>
    refine spent.of_same (kind.ground s) ?_
    simp only [perform, doSettleOrder]
    repeat' split
    all_goals simp
  | leave a h =>
    simp only [perform, doLeave]
    split
    · split
      · exact (spent.setQuiesce a _).notify ..
      · exact spent.of_same rfl rfl
    · exact spent
  | finishRedirect e =>
    refine spent.of_same (kind.ground s) ?_
    simp only [perform, doFinishRedirect]
    repeat' split
    all_goals simp [State.notifyCrane]
  | _ => exact kind.elim

theorem State.settle_quiesced_spent {s : State} {b : Bed} (spent : s.Spent b) (a : Bed) :
    (s.settle [.quiesced a]).Spent b :=
  runAgenda_keeps_of (P := (·.Spent b)) (K := Task.OfQuiescence) (fun _ _ kind spent => kind.spent spent)
    (fun _ t kind => kind.follow t) _ _ s (by simp [Task.OfQuiescence]) spent

/-! ### Notices that reach the office's queue -/

theorem LinkState.enqueue_queue (q : LinkState) (n : Notice) :
    (q.enqueue n).queue = if q.queue.length < Config.queueDepth then q.queue ++ [n] else q.queue := by
  unfold LinkState.enqueue LinkState.transmit
  repeat' split
  all_goals rfl

theorem State.notify_queue (s : State) (l m : Link) (n : Notice) :
    ((s.notify l n).links.get m).queue =
      if m = l ∧ s.noticeWanted l n = true ∧ (s.links.get l).queue.length < Config.queueDepth then
        (s.links.get l).queue ++ [n]
      else (s.links.get m).queue := by
  rw [State.notify_links]
  by_cases wanted : s.noticeWanted l n = true
  · by_cases here : m = l
    · subst here
      simp [wanted, LinkState.enqueue_queue]
    · simp [wanted, PerLink.get_set, here]
  · simp [wanted]

/-- A notice makes a queue longer by one at most (R191). -/
theorem State.notify_queue_length (s : State) (l m : Link) (n : Notice) :
    ((s.notify l n).links.get m).queue.length ≤ (s.links.get m).queue.length + 1 := by
  rw [State.notify_queue]
  split
  · next placed => rw [placed.1, List.length_append]; rfl
  · omega

theorem State.notify_elsewhere (s : State) {l m : Link} (other : m ≠ l) (n : Notice) :
    (s.notify l n).links.get m = s.links.get m := by
  rw [State.notify_links]
  split
  · rw [PerLink.get_set, if_neg other]
  · rfl

/-- HOLD COMPLETE has no class, so that no mask keeps it back; a queue with room takes it (R191, R192). -/
theorem State.holdComplete_mem {s : State} (room : (s.links.get .office).queue.length < 16) (g : Nat) :
    .holdComplete g ∈ ((s.notify .office (.holdComplete g)).links.get .office).queue := by
  rw [State.notify_queue, if_pos ⟨rfl, rfl, room⟩]
  exact List.mem_append_right _ (List.mem_singleton.2 rfl)

/-! ### A bed held by the hall hold alone -/

/-- R111, R118: the bed's only grant is the hall hold's, which may be complete with it. -/
theorem State.settle_quiesced_hall {s : State} {b : Bed}
    (held : (s.quiesce.get b).holders = { order := ⟨none, none⟩, hall := true }) :
    s.settle [.quiesced b] = (doGranted (doQuiesced s b).1 b .hall).1 := by
  have grants : (perform (.quiesced b) s).2 = [.granted b .hall] := by
    simp [perform, doQuiesced, held, HolderSet.members, allCranes, PerCrane.get]
  have ends (u : State) : (perform (.granted b .hall) u).2 = [] := by
    simp only [perform, doGranted]
    repeat' split
    all_goals rfl
  refine Works.settle (n := 0 + 1 + 1) (Works.task ?_) (by decide)
  rw [grants]
  exact Works.task (by rw [ends]; exact Works.nil _)

@[simp] theorem doGranted_quiesce (s : State) (b : Bed) (h : Holder) : (doGranted s b h).1.quiesce = s.quiesce := by
  unfold doGranted
  repeat' split
  all_goals simp

theorem doQuiesced_quiesce (s : State) (b : Bed) :
    (doQuiesced s b).1.quiesce = s.quiesce.set b { s.quiesce.get b with state := .quiesced, timer := none } := by
  simp only [doQuiesced]
  split <;> simp [State.setQuiesce_quiesce]

@[simp] theorem doQuiesced_shared (s : State) (b : Bed) : (doQuiesced s b).1.shared = s.shared := by
  simp only [doQuiesced]
  split <;> simp

theorem doQuiesced_queue_length (s : State) (b : Bed) (l : Link) :
    ((doQuiesced s b).1.links.get l).queue.length ≤ (s.links.get l).queue.length + 1 := by
  simp only [doQuiesced]
  split
  · exact (State.notify_queue_length ..).trans (by rw [State.setQuiesce_links])
  · simp

/-- R118: the hall hold is complete when the second bed is QUIESCED under it. -/
theorem State.quiesced_completes_hold {s : State} {b : Bed} {e g : Nat} (held : (s.quiesce.get b).holders.hall = true)
    (hold : s.hold = some (e, g)) (state : (s.quiesce.get b.other).state = .quiesced)
    (heldToo : (s.quiesce.get b.other).holders.hall = true) (room : (s.links.get .office).queue.length < 15) :
    .holdComplete g ∈ ((doGranted (doQuiesced s b).1 b .hall).1.links.get .office).queue := by
  have both : ((doQuiesced s b).1.hallGranted .one && (doQuiesced s b).1.hallGranted .two) = true := by
    simp only [State.hallGranted, doQuiesced_quiesce]
    cases b <;> simp_all [PerBed.set, PerBed.get, Bed.other]
  have known : (doQuiesced s b).1.hold = some (e, g) := (State.hold_of_shared (doQuiesced_shared s b)).trans hold
  simp only [doGranted, known, both, if_true]
  exact State.holdComplete_mem ((doQuiesced_queue_length s b .office).trans_lt (by omega)) g

/-! ### Falling edges -/

theorem reached_iff {threshold count : Nat} : reached threshold count = true ↔ threshold ≠ 0 ∧ threshold ≤ count := by
  simp [reached]

theorem Consumable.holdReached_iff (c : Consumable) (k : ConsumableSettings) :
    c.holdReached k = true ↔ 3 ≤ c.misfires ∨ (k.holdPierces ≠ 0 ∧ k.holdPierces ≤ c.pierces) ∨
      (k.holdSeconds ≠ 0 ∧ k.holdSeconds * 1000 ≤ c.arcTime) := by
  simp only [Consumable.holdReached, Consumable.reaches, Bool.or_eq_true, reached_iff, decide_eq_true_eq]
  omega

theorem Consumable.warnReached_iff (c : Consumable) (k : ConsumableSettings) :
    c.warnReached k = true ↔ (k.warnPierces ≠ 0 ∧ k.warnPierces ≤ c.pierces) ∨
      (k.warnSeconds ≠ 0 ∧ k.warnSeconds * 1000 ≤ c.arcTime) := by
  simp only [Consumable.warnReached, Consumable.reaches, Bool.or_eq_true, reached_iff]
  omega

theorem Consumable.nextState_hold_iff (c : Consumable) (k : ConsumableSettings) :
    c.nextState k = .hold ↔ c.state = .hold ∨ c.holdReached k = true := by
  unfold Consumable.nextState
  split
  · next worn => simpa using worn
  · next below =>
    rw [Bool.or_eq_true, decide_eq_true_eq] at below
    split
    · simp [below]
    · simp [not_or.1 below]

theorem Consumable.nextState_warn_iff (c : Consumable) (k : ConsumableSettings) :
    c.nextState k = .warn ↔ c.nextState k ≠ .hold ∧ (c.state = .warn ∨ c.warnReached k = true) := by
  unfold Consumable.nextState
  split
  · simp
  · next below =>
    split
    · next reached => simp_all
    · next short => cases state : c.state <;> simp_all

section Charge

variable (c : Consumable) (minArc duration : Nat)

theorem Consumable.charge_arcTime : (c.charge minArc duration).arcTime = min 4294967295 (c.arcTime + duration) := by
  unfold Consumable.charge
  split <;> rfl

theorem Consumable.charge_state : (c.charge minArc duration).state = c.state := by
  unfold Consumable.charge
  split <;> rfl

variable {minArc duration}

theorem Consumable.charge_pierce (long : minArc ≤ duration) :
    (c.charge minArc duration).pierces = min 65535 (c.pierces + 1) ∧ (c.charge minArc duration).misfires = 0 := by
  simp [Consumable.charge, long]

theorem Consumable.charge_misfire (short : duration < minArc) :
    (c.charge minArc duration).pierces = c.pierces ∧
      (c.charge minArc duration).misfires = min 255 (c.misfires + 1) := by
  simp [Consumable.charge, Nat.not_le.2 short]

end Charge

/-- The consumable record of a bed after an arc: the counts first, then the state from them (R91, R94). -/
def State.worn (s : State) (b : Bed) (duration : Nat) : Consumable :=
  { (s.consumables.get b).charge (s.committed.consumables.get b).minArc duration with
    state := ((s.consumables.get b).charge (s.committed.consumables.get b).minArc duration).nextState
      (s.committed.consumables.get b) }

/-- The counts of a bed and of its nest charged with an arc (R91). -/
def State.charged (s : State) (b : Bed) (duration : Nat) : State :=
  { s with
    consumables := s.consumables.set b (s.worn b duration)
    claims := s.claims.set b ((s.claims.get b).map (Nest.charge · (s.committed.consumables.get b).minArc duration)) }

theorem State.chargeArc_eq (s : State) (b : Bed) (duration : Nat) :
    s.chargeArc b duration = (s.charged b duration).wearChanged b (s.consumables.get b) := rfl

/-- R95: a state that stands sends nothing; a change re-evaluates permit and beacon and sends one notice to bed and office. -/
theorem State.wearChanged_cases (s : State) (b : Bed) (old : Consumable) :
    ((s.consumables.get b).state = old.state ∧ s.wearChanged b old = s) ∨
      ((s.consumables.get b).state ≠ old.state ∧
        ∃ n, s.wearChanged b old = (((s.evalPermit b).evalBeacon b).notify (.bed b) n).notify .office n) := by
  simp only [State.wearChanged]
  split
  · next same => exact .inl ⟨same, rfl⟩
  · next moved => exact .inr ⟨moved, _, rfl⟩

theorem State.wearChanged_ground (s : State) (b : Bed) (old : Consumable) : (s.wearChanged b old).ground = s.ground := by
  rcases s.wearChanged_cases b old with ⟨_, same⟩ | ⟨_, n, told⟩
  · rw [same]
  · rw [told, State.notify_ground, State.notify_ground]
    exact s.evalPermit_ground b

theorem State.wearChanged_shared (s : State) (b : Bed) (old : Consumable) : (s.wearChanged b old).shared = s.shared := by
  rcases s.wearChanged_cases b old with ⟨_, same⟩ | ⟨_, n, told⟩
  · rw [same]
  · simp [told]

theorem State.wearChanged_quiesce {s : State} {b : Bed} (moves : (s.quiesce.get b).state ≠ .stopping) (old : Consumable) :
    (s.wearChanged b old).quiesce = s.quiesce := by
  rcases s.wearChanged_cases b old with ⟨_, same⟩ | ⟨_, n, told⟩
  · rw [same]
  · simp [told, State.evalPermit_quiesce moves]

/-- The office hears of an edge once at most. -/
theorem State.wearChanged_queue_length (s : State) (b : Bed) (old : Consumable) :
    ((s.wearChanged b old).links.get .office).queue.length ≤ (s.links.get .office).queue.length + 1 := by
  rcases s.wearChanged_cases b old with ⟨_, same⟩ | ⟨_, n, told⟩
  · rw [same]
    exact Nat.le_succ _
  · have other : Link.office ≠ .bed b := nofun
    rw [told]
    refine (State.notify_queue_length ..).trans ?_
    rw [State.notify_elsewhere _ other, State.evalBeacon_links, State.evalPermit_links]

/-- R94: entering HOLD deasserts ARC PERMIT. -/
theorem State.wearChanged_spent {s : State} {b : Bed} {old : Consumable} (hold : (s.consumables.get b).state = .hold)
    (before : old.state ≠ .hold) : (s.wearChanged b old).Spent b := by
  rcases s.wearChanged_cases b old with ⟨same, _⟩ | ⟨_, n, told⟩
  · exact absurd (same.symm.trans hold) before
  · have spent : (s.evalPermit b).Spent b := by
      have consumables : (s.evalPermit b).consumables = s.consumables := (congrArg State.consumables (s.evalPermit_ground b) :)
      rw [State.Spent, consumables, State.evalPermit_permit, PerBed.get_set_same]
      exact ⟨hold, State.permitDue_of_hold hold⟩
    rw [told]
    exact ((spent.of_same rfl rfl : ((s.evalPermit b).evalBeacon b).Spent b).notify ..).notify ..

theorem State.arcWentOff_ground (s : State) (b : Bed) : (s.arcWentOff b).ground = s.ground := by
  unfold State.arcWentOff
  split
  · exact s.settle_quiesced_ground b
  · rfl

theorem State.Spent.arcWentOff {s : State} {b : Bed} (spent : s.Spent b) : (s.arcWentOff b).Spent b := by
  unfold State.arcWentOff
  split
  · exact State.settle_quiesced_spent spent b
  · exact spent

/-- R91: a bed that waited in PARKING for the edge alone becomes QUIESCED. -/
theorem State.arcWentOff_waiting {s : State} {b : Bed} (parking : (s.quiesce.get b).state = .parking)
    (waits : (s.quiesce.get b).parked = true ∨ (s.quiesce.get b).degraded = true) :
    s.arcWentOff b = s.settle [.quiesced b] := by
  rw [State.arcWentOff, if_pos]
  simpa [parking] using waits

/-- The state that a falling edge charges: the arc is OFF (R89). -/
def State.fallen (s : State) (b : Bed) : State := s.quiet.modArc b fun a => { a with rise := none }

theorem exec_arcSenseFallingEdge {s : State} {b : Bed} {f : Time} (on : (s.arcs.get b).rise = some f) :
    exec (.arcSenseFallingEdge b) s = .next (((s.fallen b).chargeArc b (s.hallTime - f).toNat).arcWentOff b) := by
  have falls : s.quiet.fallArc b = ((s.fallen b).chargeArc b (s.hallTime - f).toNat).arcWentOff b := by
    simp only [State.fallArc, State.quiet, on]
    rfl
  rw [← falls]
  exact takeEvent_of (holds := (·.arcOn b)) (State.fallArc · b) (by simp [State.arcOn, State.quiet, on])

/-- Settles O18. Neither the notices of the edge nor the agenda of a quiescence touch what the charge has written. -/
theorem fallingEdgeChargesTheArc : Obligations.FallingEdgeChargesTheArc := by
  intro s b f on
  have moves := exec_arcSenseFallingEdge on
  rw [State.chargeArc_eq] at moves
  generalize (s.hallTime - f).toNat = d at moves ⊢
  have charged := State.wearChanged_ground ((s.fallen b).charged b d) b (s.consumables.get b)
  have ground := (State.arcWentOff_ground _ b).trans charged
  have hold := ((s.consumables.get b).charge (s.committed.consumables.get b).minArc d).nextState_hold_iff
    (s.committed.consumables.get b)
  have warn := ((s.consumables.get b).charge (s.committed.consumables.get b).minArc d).nextState_warn_iff
    (s.committed.consumables.get b)
  rw [Consumable.charge_state, Consumable.holdReached_iff] at hold
  rw [Consumable.charge_state, Consumable.warnReached_iff] at warn
  refine ⟨_, s.worn b d, moves, (congrArg State.arcs ground :), (congrArg State.consumables ground :),
    Consumable.charge_arcTime .., Consumable.charge_pierce _, Consumable.charge_misfire _, hold, warn,
    (congrArg State.claims ground :), fun held before => ?spent, fun parking waits alone => ?waiting,
    (congrArg State.slots ground :), (congrArg State.piles ground :), (congrArg State.stations ground :),
    (congrArg State.infeed ground :), (congrArg State.hooks ground :)⟩
  case spent =>
    have written : (((s.fallen b).charged b d).consumables.get b).state = .hold := by
      rw [← held]
      exact congrArg Consumable.state (PerBed.get_set_same ..)
    exact (State.wearChanged_spent written before).arcWentOff.2
  case waiting =>
    have quiesce := State.wearChanged_quiesce (s := (s.fallen b).charged b d) (b := b)
      (by simp [State.charged, State.fallen, State.quiet, parking]) ((s.fallen b).consumables.get b)
    have shared := State.wearChanged_shared ((s.fallen b).charged b d) b ((s.fallen b).consumables.get b)
    have length := State.wearChanged_queue_length ((s.fallen b).charged b d) b ((s.fallen b).consumables.get b)
    generalize ((s.fallen b).charged b d).wearChanged b ((s.fallen b).consumables.get b) = u at quiesce shared length ⊢
    have quiesce : u.quiesce = s.quiesce := quiesce
    rw [State.arcWentOff_waiting (by rw [quiesce, parking]) (by rw [quiesce]; exact waits),
      State.settle_quiesced_hall (by rw [quiesce, alone]), doGranted_quiesce, doQuiesced_quiesce, PerBed.get_set_same]
    refine ⟨rfl, rfl, fun e g hold state heldToo room => ?_⟩
    exact State.quiesced_completes_hold (by rw [quiesce, alone]) ((State.hold_of_shared shared).trans hold)
      (by rw [quiesce, state]) (by rw [quiesce, heldToo]) (length.trans_lt (Nat.succ_lt_succ room))

end Sys2Proof.Machine

namespace Sys2Proof.Machine

open Sys2Proof

/-! ### STATUS (R199) -/

/-- R188: STATUS is a kind of every link. -/
theorem status_allowedOn (l : Link) : RequestKind.status.allowedOn l = true := rfl

theorem status_takenIn (p : PartState) : RequestKind.status.takenIn p = true := by
  cases p <;> rfl

/-- The view is taken once the request has been received, as the owning block sees the state. -/
theorem exec_status {s : State} {r : Req} (up : s.linkUp r.link = true) (status : r.status = 0) (fits : r.fits = true) :
    exec (.status r) s = .next (s.after r .status .ok (.status (s.receive r.link).statusView)) :=
  takeRequest_after (owner := fun s => (s, .ok, .status s.statusView))
    (State.linkCheck_receive_eq_none rfl (status_allowedOn _) up status (status_takenIn _) fits) rfl

theorem State.hold_isSome_iff {s : State} : s.hold.isSome = true ↔ ∃ e g, s.entry e = some (.hold g) := by
  rw [State.hold, List.findSome?_isSome_iff]
  constructor
  · rintro ⟨e, _, found⟩
    split at found
    · next g held => exact ⟨e, g, held⟩
    · contradiction
  · rintro ⟨e, g, held⟩
    exact ⟨e, State.entry_range held, by rw [held]; rfl⟩

theorem State.statusView_links (s : State) (l : Link) : s.statusView.links.get l = s.linkUp l := by
  cases l with
  | office => rfl
  | bed b => cases b <;> rfl
  | crane c => cases c <;> rfl

theorem State.statusView_quiesce (s : State) (b : Bed) : s.statusView.quiesce.get b = (s.quiesce.get b).state := by
  cases b <;> rfl

theorem State.statusView_span (s : State) (c : Crane) :
    s.statusView.span.get c = (s.runway.get c).span.map (·.kind) := by
  cases c <;> rfl

theorem State.statusView_breach (s : State) (c : Crane) :
    s.statusView.breach.get c = (s.runway.get c).breach.isSome := by
  cases c <;> rfl

theorem State.statusView_freeSlots (s : State) :
    s.statusView.freeSlots = ((List.range 512).filter fun i => (s.slot i).content.isNone).length := by
  rw [State.statusView, State.freeSlots, Config.slotCount]

/-- Settles O24. Of what the view reads, the receipt of the frame writes the link table alone, and there no link's UP. -/
theorem statusAnswersTheHall : Obligations.StatusAnswersTheHall := by
  intro s r up status fits
  have links (l : Link) : (s.receive r.link).statusView.links.get l = s.linkUp l := by
    rw [State.statusView_links, State.receive_linkUp]
  have hold : (s.receive r.link).statusView.hallHold = true ↔ ∃ e g, s.entry e = some (.hold g) :=
    State.hold_isSome_iff (s := s)
  exact ⟨_, exec_status up status fits, rfl, rfl, links, State.statusView_quiesce _, rfl, hold, rfl,
    fun c => ⟨State.statusView_span _ c, State.statusView_breach _ c⟩, rfl, rfl, rfl,
    State.statusView_freeSlots _⟩

end Sys2Proof.Machine
